-- ==== Sys2Proof/Word.lean ====
section
/-! DEFINITION. The words and the numbered things of the TK-40: bytes, image words, and the numbers of pans,
zones, line systems and selector positions. -/

namespace Sys2Proof

/-- One byte of the roof link (R182, R183). -/
abbrev Byte := BitVec 8

/-- One word of the configuration image (R199), and a check of two bytes (R186). -/
abbrev Half := BitVec 16

/-- A pan P1 to P4: the number less one (00, section 1.7). -/
abbrev PanId := Fin 4

/-- A heater zone Z1 to Z12: the number less one (R111). -/
abbrev ZoneId := Fin 12

/-- A line system S1 to S8: the number less one (R1). S0, no system, is `none` of `Option SysId`. -/
abbrev SysId := Fin 8

/-- A selector position 1 to 3: the number less one (R1, R86). -/
abbrev Position := Fin 3

/-- The four pans in pan order. -/
abbrev allPans : List PanId := [0, 1, 2, 3]

/-- The twelve zones in zone order. -/
abbrev allZones : List ZoneId := [0, 1, 2, 3, 4, 5, 6, 7, 8, 9, 10, 11]

/-- The eight systems in index order. -/
abbrev allSystems : List SysId := [0, 1, 2, 3, 4, 5, 6, 7]

end Sys2Proof
end

