-- ==== Sys2Proof/Syntax.lean ====
section
/-! DEFINITION. The commands of the TK-40, one constructor of `Instr` for each row of spec/opcode_table.json, and
the operands they carry. A request is a frame received whole with a good check: its tag and its body (R183, R187). -/

namespace Sys2Proof

/-- The body of a request frame as LNK finds it: of a size that the request's fields do not allow (R187 step 2), or
the fields it carries. -/
inductive Body (α : Type) where
  | wrongSize
  | fields (f : α)
  deriving DecidableEq, Repr

/-- The fields of STAGE_PROFILE (R9, R197): set, pan and a profile entry (R8), each as its number (R184). A force
target or raise rate sent as absent is its byte 0xFF. -/
structure StageFields where
  set : Nat
  pan : Nat
  system : Nat
  explicit : Nat
  force : Nat
  rate : Nat
  policy : Nat
  deriving DecidableEq, Repr

/-- The fields of APPLY (R12, R197). -/
structure ApplyFields where
  set : Nat
  mask : Nat
  mode : Nat
  deriving DecidableEq, Repr

/-- Descriptor fields in the order of the table of R1, as the numbers that a frame or the image carries
(R184, R201): tenths of a kV, a Hz and a kW, and for a named value its position in its list. -/
structure RawDescriptor where
  kind : Nat
  nominal : Nat
  frequency : Option Nat
  bandLow : Nat
  bandHigh : Nat
  tolerance : Option Nat
  strip : Nat
  force : Nat
  maxRaised : Nat
  selector : Nat
  breaker : Nat
  budget : Nat
  confirm : Nat
  deviation : Nat
  neutral : Nat
  deriving DecidableEq, Repr

/-- The fields of DESCRIBE_SYSTEM (R3): an index and a full set of fields, or the empty form. -/
structure DescribeFields where
  index : Nat
  content : Option RawDescriptor
  deriving DecidableEq, Repr

/-- The fields of ANNOUNCE (R51): a kind, a parameter where the frame carries one, and a distance in metres. -/
structure AnnounceFields where
  kind : Nat
  parameter : Option Nat
  distance : Nat
  deriving DecidableEq, Repr

/-- The fields of ZONE_MODE (R128). -/
structure ZoneModeFields where
  zone : Nat
  mode : Nat
  deriving DecidableEq, Repr

/-- The fields of ICE_LEVEL (R129). -/
structure IceLevelFields where
  pan : Nat
  level : Nat
  deriving DecidableEq, Repr

/-- The fields of START_PROGRAM (R130). -/
structure StartProgramFields where
  pan : Nat
  kind : Nat
  deriving DecidableEq, Repr

/-- The fields of QUALITY_SETUP (R147); the period in whole seconds. -/
structure QualitySetupFields where
  period : Nat
  reports : Nat
  disturb : Nat
  clean : Nat
  deriving DecidableEq, Repr

/-- The fields of ACK_FAULT (R159): a kind with a subject, or ALL. -/
inductive AckFields where
  | all
  | one (kind : Nat) (subject : Nat)
  deriving DecidableEq, Repr

/-- One item of PRELOAD (R172): a channel, by its place in the list of R167 (RV1 is 0, SD is 22), and a value. -/
structure PreloadItem where
  channel : Nat
  value : Nat
  deriving DecidableEq, Repr

/-- A telegram as the coil reader line delivers it (R41). -/
structure Telegram where
  code : Fin 64
  distance : Fin 256
  parity : Bool
  framingError : Bool
  deriving DecidableEq, Repr

/-- The four inputs of a pan (R60). -/
inductive PanInput where
  | headUp | headDown | contact | breach
  deriving DecidableEq, Repr

/-- The two interlock inputs (R152); level `true` is the earthing switch closed, or the air supply low. -/
inductive InterlockInput where
  | earthing | airSupply
  deriving DecidableEq, Repr

/-- The commands of the TK-40: the rows of spec/opcode_table.json in their order. -/
inductive Instr where
  | identify (tag : Byte) (body : Body Unit)
  | status (tag : Byte) (body : Body Unit)
  | restart (tag : Byte) (body : Body Unit)
  | stageProfile (tag : Byte) (body : Body StageFields)
  | readProfile (tag : Byte) (mask : Body Nat)
  | apply (tag : Byte) (body : Body ApplyFields)
  | describeSystem (tag : Byte) (body : Body DescribeFields)
  | readSystem (tag : Byte) (index : Body Nat)
  | readLine (tag : Byte) (body : Body Unit)
  | announce (tag : Byte) (body : Body AnnounceFields)
  | withdraw (tag : Byte) (id : Body Nat)
  | readAnnouncements (tag : Byte) (body : Body Unit)
  | markerSetup (tag : Byte) (setting : Body Nat)
  | readOdometer (tag : Byte) (body : Body Unit)
  | raise (tag : Byte) (pan : Body Nat)
  | lower (tag : Byte) (pan : Body Nat)
  | drop (tag : Byte) (pan : Body Nat)
  | resetTrip (tag : Byte) (pan : Body Nat)
  | readPan (tag : Byte) (mask : Body Nat)
  | connect (tag : Byte) (index : Body Nat)
  | isolate (tag : Byte) (body : Body Unit)
  | setAuto (tag : Byte) (setting : Body Nat)
  | clearPath (tag : Byte) (body : Body Unit)
  | readPath (tag : Byte) (body : Body Unit)
  | zoneMode (tag : Byte) (body : Body ZoneModeFields)
  | iceLevel (tag : Byte) (body : Body IceLevelFields)
  | startProgram (tag : Byte) (body : Body StartProgramFields)
  | stopProgram (tag : Byte) (pan : Body Nat)
  | readIce (tag : Byte) (body : Body Unit)
  | gate (tag : Byte) (command : Body Nat)
  | resetCounts (tag : Byte) (body : Body Unit)
  | qualitySetup (tag : Byte) (body : Body QualitySetupFields)
  | injectArc (tag : Byte) (pan : Body Nat)
  | readQuality (tag : Byte) (body : Body Unit)
  | readFaults (tag : Byte) (body : Body Unit)
  | ackFault (tag : Byte) (body : Body AckFields)
  | sample (tag : Byte) (body : Body Unit)
  | preload (tag : Byte) (items : Body (List PreloadItem))
  | outputMode (tag : Byte) (mode : Body Nat)
  | start (tag : Byte) (body : Body Unit)
  | unknownTypeFrame (tag : Byte) (type : Byte)
  | badCheckFrame
  | frameOverrun
  | frameGapExpiry
  | framingErrorByte
  | linkBreakDetected
  | linkBreakEnd
  | frameSent
  | powerOn
  | resetLineAsserted
  | resetLineReleased
  | flashReadyTimeout
  | imageReadTimeout
  | loadEnd (image : List Half)
  | windowCompletion (samples : Vector Int 80)
  | wheelPulse
  | speedRecompute
  | telegram (t : Telegram)
  | panInputChange (pan : PanId) (input : PanInput) (level : Bool)
  | raiseTimeout (pan : PanId)
  | lowerTimeout (pan : PanId)
  | dropTimeout (pan : PanId)
  | dipPulseEnd (pan : PanId)
  | dipRegainExpiry (pan : PanId)
  | breakerFeedbackChange (closed : Bool)
  | selectorFeedbackChange (position : Option Position)
  | selectorMoveTimeout
  | closeFeedbackTimeout
  | openFeedbackTimeout
  | awaitLineLimitExpiry
  | lossCoastLimitExpiry
  | interlockChange (input : InterlockInput) (level : Bool)
  | temperatureSample (reading : Int)
  | precipitationChange (wet : Bool)
  | heaterFeedbackChange (zone : ZoneId) (closed : Bool)
  | feedbackCheckExpiry (zone : ZoneId)
  | heatComplete (pan : PanId)
  | dipWaitExpiry (pan : PanId)
  | arcSample (pulse : Bool)
  | qualityWindowEnd (pan : PanId)
  | reportPeriodEnd
  | backfeedWatchSample
  | driveExitExpiry
  | receivedByte (byte : Byte)
  deriving DecidableEq, Repr

end Sys2Proof
end

