-- ==== Sys2Proof/Decode.lean ====
section
/-! DEFINITION. The command that a word of opcode_table.json spells. No row of this hardware's table gives any bits
(each row's "fields" is empty and none has "fixed"), so no word spells a command. The frames of the roof link, which
do spell requests, are read in Machine/Frame.lean. -/

namespace Sys2Proof

/-- No row of the opcode table gives bits: no word spells a command. -/
def decodeTableWord (_nbits _w : Nat) : Option Instr := none

end Sys2Proof
end

