-- ==== Sys2Proof/Config.lean ====
section
/-! DEFINITION. What the manual leaves to an implementation, and its free values: constants with no body, so that
no proof can learn a value of them. -/

namespace Sys2Proof

/-- The vendor code of R193; the manual names it and gives no number (log 24). -/
opaque Config.vendorCode : Half

/-- The part code of R193; the manual names it and gives no number (log 24). -/
opaque Config.partCode : Half

/-- The free part of the design issue of R193; `Config.designIssue` keeps its stated range (log 24). -/
opaque Config.designIssueCode : Nat

/-- The design issue, "a number from 1 to 255" (R193). -/
def Config.designIssue : Nat := 1 + Config.designIssueCode % 255

/-- Whether a quotient `num / den` that is no whole number is held rounded up: R24 and R25 hold values to a
step and do not say how they are rounded to it (log 11). -/
opaque Config.quotientUp : Nat → Nat → Bool

/-- Whether a root of `num / den` that is no whole number is held rounded up (R24, log 11). -/
opaque Config.rootUp : Nat → Nat → Bool

/-- Whether a value that lies midway between two reported steps is reported as the upper one (R24, R25, log 11). -/
opaque Config.midwayUp : Nat → Bool

/-- The word the flash holds at an address past the image written to it (R199: "at most 4096" words, log 25). -/
opaque Config.beyondImage : Nat → Half

/-- The coded choices, at power-on, of the order in which notices that stand in no order are taken (log 6). -/
opaque Config.order : Nat

end Sys2Proof
end

