-- ==== Sys2Proof/Machine/State.lean ====
section
/-! DEFINITION. The state of the TK-40: every piece of state that the chapters give its eleven blocks, the entries of
its outbound queue, the raw levels of its inputs, and the commands that wait. Everything here is plain data. -/

namespace Sys2Proof.Machine

/-! ### PRF: descriptors and profiles (chapter 1) -/

/-- AC or DC: the kind of a supply, and the breaker kind of R1. -/
inductive SupplyKind where
  | ac | dc
  deriving DecidableEq, Repr

/-- The strip class a descriptor admits (R1, R2). -/
inductive StripAdmitted where
  | a | b | any
  deriving DecidableEq, Repr

/-- The collector strip fitted to a pan (R58). -/
inductive StripClass where
  | a | b
  deriving DecidableEq, Repr

/-- What the path does at a neutral section (R1). -/
inductive NeutralHandling where
  | openBreaker | lowerPans
  deriving DecidableEq, Repr

/-- A present entry of the Line System Descriptor Table (R1). Voltage, frequency and power are in tenths, bands in
percent of the nominal voltage. -/
structure Descriptor where
  kind : SupplyKind
  nominal : Nat
  frequency : Option Nat
  bandLow : Nat
  bandHigh : Nat
  tolerance : Option Nat
  strip : StripAdmitted
  force : Nat
  maxRaised : Nat
  selector : Position
  breaker : SupplyKind
  budget : Nat
  confirm : Nat
  deviation : Nat
  neutral : NeutralHandling
  deriving DecidableEq, Repr

/-- A raise rate (R8). -/
inductive RaiseRate where
  | slow | normal
  deriving DecidableEq, Repr

/-- A heater policy (R8). -/
inductive HeaterPolicy where
  | auto | off | forced
  deriving DecidableEq, Repr

/-- The fields that an explicit profile holds (R8). -/
structure ExplicitForce where
  force : Nat
  rate : RaiseRate
  deriving DecidableEq, Repr

/-- A profile entry (R8); `none` as its system is S0, `none` as its explicit part is "not explicit". -/
structure Profile where
  system : Option SysId
  explicit : Option ExplicitForce
  policy : HeaterPolicy
  deriving DecidableEq, Repr

/-- System S0, not explicit, heater policy AUTO: the profile of R21 and R22. -/
def Profile.idle : Profile := { system := none, explicit := none, policy := .auto }

/-- The config status of a pan (R10). -/
inductive ConfigStatus where
  | idle | success | inProgress | rejectedUnknownSystem | rejectedStrip | rejectedRaised | rejectedPassOnly
  | rejectedUnfitted | aborted
  deriving DecidableEq, Repr

/-- What PRF holds (R1, R9, R10, R20). The in-force profiles are in the pan records. -/
structure Store where
  descriptors : Vector (Option Descriptor) 8
  staged0 : Vector Profile 4
  staged1 : Vector Profile 4
  active : Vector Profile 4
  marks : Vector Bool 4
  status : Vector ConfigStatus 4
  passOnly : Bool
  deriving DecidableEq, Repr

/-! ### LSR: line recognition (chapter 2) -/

/-- The candidate of a window (R26). -/
inductive Candidate where
  | dead | noMatch | system (s : SysId)
  deriving DecidableEq, Repr

/-- The recognition record's stepped part (R28). -/
inductive LineRecord where
  | dead
  | acquiring (run : Option SysId) (count : Nat)
  | recognized (s : SysId)
  | suspect (s : SysId) (good : Nat) (bad : Nat)
  deriving DecidableEq, Repr

/-- The record's state with its system, as reports and READ_LINE carry it (R34, R35). -/
inductive LineState where
  | dead | acquiring | recognized (s : SysId) | suspect (s : SysId)
  deriving DecidableEq, Repr

/-- The measurements of the latest window (R28, R35); the magnitude in hundredths of a kV, the frequency estimate in
hundredths of a Hz, as LSR holds them (R24, R25). -/
structure Measurement where
  number : Nat
  magnitude : Option Nat
  kind : Option SupplyKind
  frequency : Option Nat
  clipped : Option Bool
  candidate : Candidate
  deviation : Option Nat
  deriving DecidableEq, Repr

/-- What LSR holds (R28). `crossings` are the crossing times of the window two before, the one before and the latest,
in samples from each window's start; `side` is the level last left (true above), from which the next crossing is
judged; `previous` holds the samples of the window before, in volts (R27; log 11, log 13). -/
structure Sense where
  record : LineRecord
  crossings : List Nat × List Nat × List Nat
  side : Option Bool
  previous : List Int
  latest : Measurement
  deriving DecidableEq, Repr

/-! ### MKR: markers and announcements (chapter 3) -/

/-- A kind of announcement with its parameter (R44, R46). -/
inductive Announced where
  | systemAhead (s : SysId)
  | neutralAhead (length : Nat)
  | lowerZone
  | lowerZoneEnd
  | icePermit
  | iceForbid
  deriving DecidableEq, Repr

/-- Where an announcement came from (R46). -/
inductive Source where
  | wayside | routeData
  deriving DecidableEq, Repr

/-- An entry of the Announcement Queue (R46). -/
structure Announcement where
  id : Nat
  what : Announced
  trigger : Nat
  source : Source
  deriving DecidableEq, Repr

/-- The validation setting (R42). -/
inductive Validation where
  | fourOfFive | eightOfTen
  deriving DecidableEq, Repr

/-- A code and its distance in metres (R41). -/
structure Pair where
  code : Fin 64
  distance : Nat
  deriving DecidableEq, Repr

/-- The last declared pair with its declaration position (R42). -/
structure DeclaredPair where
  pair : Pair
  position : Nat
  deriving DecidableEq, Repr

/-- The lead times of R49, in tenths of a second. -/
structure LeadTimes where
  systemAhead : Nat
  neutralAhead : Nat
  lowerZone : Nat
  lowerZoneEnd : Nat
  icePermit : Nat
  iceForbid : Nat
  deriving DecidableEq, Repr

/-- What MKR holds. A reading is an odometer with its remainder, in hundredths of a metre, oldest first. -/
structure Marker where
  odometer : Nat
  remainder : Nat
  perPulse : Nat
  readings : List Nat
  speed : Nat
  map : Vector (Option Announced) 64
  leads : LeadTimes
  validation : Validation
  history : List Pair
  declared : Option DeclaredPair
  queue : List Announcement
  nextId : Nat
  telegrams : Nat
  parityErrors : Nat
  declarations : Nat
  unmapped : Nat
  deriving DecidableEq, Repr

/-! ### PAN: pantographs (chapter 4) -/

/-- The state of a pan (R58). -/
inductive PanState where
  | down | rising | up | dipping | falling | dropping | tripped
  deriving DecidableEq, Repr

/-- Who wants a pan raised (R58). -/
inductive Want where
  | none | link | path
  deriving DecidableEq, Repr

/-- The retry hold of a pan (R58, R69). -/
inductive Hold where
  | none | awaiting | armed
  deriving DecidableEq, Repr

/-- The trip cause of a pan (R58). -/
inductive TripCause where
  | stripBreach | airLoss | linkDrop
  deriving DecidableEq, Repr

/-- The timers of R62 that run. -/
inductive PanTimerKind where
  | raise | lower | drop | dipPulse | dipRegain
  deriving DecidableEq, Repr

/-- A running pan timer, with its remaining time in ms (R58). -/
structure PanTimer where
  kind : PanTimerKind
  remaining : Nat
  deriving DecidableEq, Repr

/-- The four inputs of a pan (R60). -/
structure PanInputs where
  headUp : Bool
  headDown : Bool
  contact : Bool
  breach : Bool
  deriving DecidableEq, Repr

/-- A pan record (R58). `rising` is the time since RISING was entered, in ms, the moment noted by R68, and `rate` the
raise rate that the pan entered RISING with (R62). The effective force is computed (`Pan.effective`). -/
structure Pan where
  fitted : Bool
  strip : StripClass
  rank : Nat
  state : PanState
  want : Want
  hold : Hold
  inForce : Profile
  base : Nat
  quality : Nat
  ice : Nat
  lastRaise : Option Nat
  failures : Nat
  trip : Option TripCause
  timer : Option PanTimer
  rising : Nat
  rate : RaiseRate
  inputs : PanInputs
  deriving DecidableEq, Repr

/-- The durations of R62, in ms. -/
structure PanTimes where
  nominalNormal : Nat
  nominalSlow : Nat
  raiseNormal : Nat
  raiseSlow : Nat
  lower : Nat
  drop : Nat
  dipPulse : Nat
  dipRegain : Nat
  deriving DecidableEq, Repr

/-! ### LNK: results and reasons (chapter 10) -/

/-- The reasons of a REFUSED reply, in the order of their codes (R183). -/
inductive Reason where
  | unknownType | badLength | badPan | badIndex | outOfRange | fieldMismatch | inUse | badSet | emptyMask | earthed
  | airLow | stripBreach | backfeed | iceSevere | limit | mixedSystem | wrongSystem | tripped | notTripped
  | headNotDown | badKind | unfitted | noSystem | notUp | noPermit | lowerZone | unknownSystem | conflict | noPan
  | stillClosed | badZone | noProgram | policyOff | noZone | zoneFault | zoneOff | notMeasuring | noEntry | notHeld
  deriving DecidableEq, Repr

/-- Why a raise claim was refused: a reason of R65, or MODE (its condition 6) or BUSY (R67, R70), which stand in the
reply's result byte and have no reason code. -/
inductive ClaimReason where
  | because (r : Reason)
  | mode
  | busy
  deriving DecidableEq, Repr

/-! ### CHG: the path (chapter 5) -/

/-- The opening reason, with the coast end of NEUTRAL and the next target of CHANGE (R83). -/
inductive OpeningReason where
  | neutral (coastEnd : Nat)
  | change (next : SysId)
  | lowerZone
  | loss
  | request
  | pan
  | earth
  deriving DecidableEq, Repr

/-- The coast kind, with the coast end of NEUTRAL (R83). The coast end of LOSS is the path timer's remaining time. -/
inductive CoastKind where
  | neutral (coastEnd : Nat)
  | loss
  | zone
  deriving DecidableEq, Repr

/-- The fault cause of a FAULTED path, with its detail (R83, R95, R97, R99). -/
inductive PathFault where
  | selectorNoArrival
  | selectorLeftPosition
  | breakerStuckClosed
  deriving DecidableEq, Repr

/-- The path state with the fields that are present only in it (R83). -/
inductive PathState where
  | isolated
  | selecting
  | awaitLine
  | closing
  | live
  | opening (reason : OpeningReason)
  | coasting (kind : CoastKind)
  | changing (next : SysId)
  | faulted (cause : PathFault)
  deriving DecidableEq, Repr

/-- The claim status of a pan (R84). -/
inductive Claim where
  | none
  | sent
  | taken
  | held
  | refused (r : ClaimReason)
  | ended
  deriving DecidableEq, Repr

/-- The path timers of R85. -/
inductive PathTimerKind where
  | selector | close | openFeedback | awaitLine | lossCoast
  deriving DecidableEq, Repr

/-- The running path timer, with its remaining time in ms (R83). -/
structure PathTimer where
  kind : PathTimerKind
  remaining : Nat
  deriving DecidableEq, Repr

/-- The path record (R83). The present system is computed (`Path.present`). -/
structure Path where
  state : PathState
  target : Option SysId
  auto : Bool
  lowerZone : Bool
  expected : Option SysId
  claims : Vector Claim 4
  timer : Option PathTimer
  deriving DecidableEq, Repr

/-- The durations of R85, in ms. -/
structure PathTimes where
  selector : Nat
  closeAc : Nat
  closeDc : Nat
  openAc : Nat
  openDc : Nat
  awaitLine : Nat
  lossCoast : Nat
  deriving DecidableEq, Repr

/-! ### ICE: ice clearing (chapter 6) -/

/-- Where a zone heats (R111); a group G1 to G4 is its number less one. -/
inductive ZoneLocation where
  | panHead (p : PanId)
  | insulator (g : Fin 4)
  | selector
  | breaker
  deriving DecidableEq, Repr

/-- The mode of a zone (R111). -/
inductive ZoneMode where
  | off | auto | forced
  deriving DecidableEq, Repr

/-- The state of a zone (R111). -/
inductive ZoneState where
  | off | waiting | on | shed | faulted
  deriving DecidableEq, Repr

/-- The demand of a zone (R111, R113). -/
inductive Demand where
  | none | autoIcing | program | forced
  deriving DecidableEq, Repr

/-- The feedback check of a zone (R117): feedback and driven value agree (no check), a check with its remaining ms, or
a disagreement whose check has expired and is not started again. -/
inductive Check where
  | agree
  | running (remaining : Nat)
  | expired
  deriving DecidableEq, Repr

/-- A heater zone record (R111); rated power in tenths of a kW. -/
structure Zone where
  fitted : Bool
  location : ZoneLocation
  rated : Nat
  priority : Nat
  mode : ZoneMode
  state : ZoneState
  demand : Demand
  feedback : Bool
  check : Check
  deriving DecidableEq, Repr

/-- An ice level (R118). -/
inductive IceLevel where
  | clear | light | heavy | severe
  deriving DecidableEq, Repr

/-- The kind of a program (R120). -/
inductive ProgramKind where
  | heat | dip | scrape
  deriving DecidableEq, Repr

/-- The state of a program (R120). -/
inductive ProgramState where
  | waiting | running | paused
  deriving DecidableEq, Repr

/-- Who started a program (R120). -/
inductive Origin where
  | link | auto
  deriving DecidableEq, Repr

/-- A program of the Program List (R120): `progress` is the remaining ms of HEAT, dips of DIP, metres of SCRAPE. -/
structure Program where
  pan : PanId
  kind : ProgramKind
  state : ProgramState
  progress : Nat
  origin : Origin
  inFlight : Bool
  wait : Option Nat
  armed : Bool
  deriving DecidableEq, Repr

/-- The cause of an aborted program (R120). -/
inductive AbortCause where
  | conditions | pan | dipFailed | noDemand | zoneFault
  deriving DecidableEq, Repr

/-- The result of a program (R120). -/
inductive ProgramEnd where
  | completed
  | stopped
  | aborted (cause : AbortCause)
  deriving DecidableEq, Repr

/-- What ICE holds; powers in tenths of a kW, temperatures in tenths of a degree. -/
structure Ice where
  zones : Vector Zone 12
  budget : Nat
  programs : List Program
  levels : Vector IceLevel 4
  permit : Bool
  temperature : Int
  wet : Bool
  icing : Int
  standby : Nat
  scrapeLength : Nat
  deriving DecidableEq, Repr

/-! ### CQM: contact quality (chapter 7) -/

/-- The state of a quality record (R137). -/
inductive QualityState where
  | idle | settling | steady | disturbed
  deriving DecidableEq, Repr

/-- A quality record (R137). -/
structure QualityRecord where
  state : QualityState
  settle : Nat
  clean : Nat
  steady : Nat
  arcs : Nat
  elapsed : Option Nat
  period : Nat
  total : Nat
  contact : Nat
  windows : Nat
  synthetic : Nat
  inject : Bool
  scrape : Bool
  deriving DecidableEq, Repr

/-- The gate (R143). -/
inductive Gate where
  | running | frozen
  deriving DecidableEq, Repr

/-- The report period (R146). -/
inductive Period where
  | one | five
  deriving DecidableEq, Repr

/-- What CQM holds. -/
structure Cqm where
  records : Vector QualityRecord 4
  gate : Gate
  period : Period
  reports : Bool
  disturb : Nat
  clean : Nat
  clock : Nat
  deriving DecidableEq, Repr

/-! ### IFU: interlocks and faults (chapter 8) -/

/-- The seventeen fault kinds, in the order of R155. -/
inductive FaultKind where
  | raiseTimeout | lowerTimeout | stripBreach | airLoss | selectorTimeout | breakerNoClose | breakerStuckClosed
  | lineLostUnannounced | systemMismatch | noPanForSystem | awaitExpired | roofBackfeed | heaterFeedback
  | announceOverflow | configImageInvalid | linkBreak | driveExitExpired
  deriving DecidableEq, Repr

/-- The subject of a fault (R154). -/
inductive Subject where
  | none
  | pan (p : PanId)
  | zone (z : ZoneId)
  | path
  deriving DecidableEq, Repr

/-- A severity (R154). -/
inductive Severity where
  | note | degrade | trip
  deriving DecidableEq, Repr

/-- The state of a fault entry (R154). -/
inductive FaultState where
  | activeUnack | activeAck | clearedUnack
  deriving DecidableEq, Repr

/-- An entry of the Fault Table (R154). The severity is fixed by the kind (`FaultKind.severity`). -/
structure FaultEntry where
  kind : FaultKind
  subject : Subject
  state : FaultState
  occurrences : Nat
  first : Nat
  last : Nat
  deriving DecidableEq, Repr

/-- The backfeed watch (R161); PRESENT keeps whether the raise that made it PRESENT was stored (R162). -/
inductive Watch where
  | quiet
  | timing (remaining : Nat)
  | present (stored : Bool)
  deriving DecidableEq, Repr

/-- What IFU holds (R152, R154, R157, R161). -/
structure Ifu where
  earthed : Bool
  airLow : Bool
  faults : List FaultEntry
  overflow : Nat
  watch : Watch
  deriving DecidableEq, Repr

/-! ### AOS: outputs (chapter 9) -/

/-- The selector drive SD (R167). -/
inductive SelectorDrive where
  | stop
  | to (p : Position)
  deriving DecidableEq, Repr

/-- One value for each of the 23 channels (R167): a raise valve is off (`none`) or on with a setpoint in N. -/
structure Channels where
  rv : Vector (Option Nat) 4
  qv : Vector Bool 4
  hz : Vector Bool 12
  bc : Bool
  bt : Bool
  sd : SelectorDrive
  deriving DecidableEq, Repr

/-- The safe values, fixed by R167. -/
def Channels.safe : Channels :=
  { rv := .replicate 4 none, qv := .replicate 4 true, hz := .replicate 12 false, bc := false, bt := true, sd := .stop }

/-- The output mode (R169). -/
inductive OutputMode where
  | run | clamp | safe | drive
  deriving DecidableEq, Repr

/-- What AOS holds: the mode, the drive-exit timer's remaining ms, and the commanded and preload values of the
Output Channel Table. Safe and driven values are computed (R169). -/
structure Outputs where
  mode : OutputMode
  exitTimer : Option Nat
  commanded : Channels
  preload : Channels
  deriving DecidableEq, Repr

/-! ### CIL: start-up (chapter 11) -/

/-- The load state (R203). -/
inductive LoadState where
  | idle | loading | doneValid | doneDefaults
  deriving DecidableEq, Repr

/-- The image status (R202). -/
inductive ImageStatus where
  | valid | defaults
  deriving DecidableEq, Repr

/-- The kind of a start-up (00 section 1.7, R204). -/
inductive StartKind where
  | cold | warm
  deriving DecidableEq, Repr

/-- The cause of a start-up (R204). -/
inductive StartCause where
  | powerOn | resetLine | restart | driveExitExpiry
  deriving DecidableEq, Repr

/-- What CIL holds (R193, R202, R203), and what the restart under way has removed, for its START_REPORT (R204). -/
structure Loader where
  state : LoadState
  image : Option ImageStatus
  version : Option Half
  kind : StartKind
  cause : StartCause
  removedAnnouncements : Nat
  removedPrograms : Nat
  abortedPans : List PanId
  deriving DecidableEq, Repr

/-! ### The lines: raw levels of the inputs (R167, R173) -/

/-- The level of every input line as it stands, before any filtering (R173). The bus sense is in volts, the ambient
temperature in tenths of a degree; `arcPulse` says that a pulse has arrived since the last detector sample. -/
structure Lines where
  pans : Vector PanInputs 4
  breakerClosed : Bool
  selector : Option Position
  contactors : Vector Bool 12
  bus : Int
  arcPulse : Bool
  earthClosed : Bool
  airLow : Bool
  ambient : Int
  wet : Bool
  resetAsserted : Bool
  deriving DecidableEq, Repr

/-! ### Reports (R198) -/

/-- Why an image gives defaults (R202). -/
inductive ImageCause where
  | noResponse | badSignature | badChecksum
  deriving DecidableEq, Repr

/-- What became of a section in a load (R204). -/
inductive SectionStatus where
  | present | absent | defaults
  deriving DecidableEq, Repr

/-- Whether a load read a section, and what it found (R204). -/
structure SectionReport where
  read : Bool
  status : Option SectionStatus
  deriving DecidableEq, Repr

/-- START_REPORT (R204). -/
structure StartReport where
  kind : StartKind
  cause : StartCause
  image : ImageStatus
  why : Option ImageCause
  version : Option Half
  sections : List SectionReport
  removedAnnouncements : Nat
  removedPrograms : Nat
  aborted : List PanId
  odometer : Nat
  faults : Nat
  tripActive : Bool
  deriving DecidableEq, Repr

/-- The cause of a LINE_STATE report (R34). -/
inductive LineCause where
  | window | lost | descriptor
  deriving DecidableEq, Repr

/-- LINE_STATE (R34). -/
structure LineReport where
  state : LineState
  reported : Option SysId
  previous : LineState
  cause : LineCause
  lost : Option SysId
  window : Nat
  deriving DecidableEq, Repr

/-- The outcome of an offer to the Announcement Queue (R45, R48). -/
inductive OfferOutcome where
  | refreshed | inserted | dueAtOnce | refused
  deriving DecidableEq, Repr

/-- The consumer of a due entry (R50). -/
inductive Consumer where
  | chg | ice
  deriving DecidableEq, Repr

/-- What a MARKER report carries, by its cause (R56). -/
inductive MarkerEvent where
  | declared (pair : Pair) (what : Announced) (trigger : Nat) (outcome : OfferOutcome) (id : Option Nat)
  | unmapped (pair : Pair)
  | evicted (entry : Announcement)
  | merged (entry : Announcement) (into : Nat)
  | due (entry : Announcement) (consumer : Consumer)
  deriving DecidableEq, Repr

/-- The cause of a PAN_STATE report (R79). -/
inductive PanCause where
  | request | path | ice | sensor | timeout | stripBreach | airLoss | linkDrop | safe | retry | reset
  deriving DecidableEq, Repr

/-- Why ICE declines a retry: the four lines of R126, a policy other than AUTO, a program on the pan already, a full
Program List, and no head zone that may heat. -/
inductive DeclineReason where
  | policy | program | listFull | zone
  deriving DecidableEq, Repr

/-- Why a retry or a held want ended in refusal (R70, R79, R126; log 43). -/
inductive RetryRefusal where
  | claim (w : ClaimReason)
  | declined (d : DeclineReason)
  deriving DecidableEq, Repr

/-- PAN_STATE (R79). -/
structure PanReport where
  pan : PanId
  state : PanState
  previous : PanState
  cause : PanCause
  want : Want
  hold : Hold
  trip : Option TripCause
  force : Nat
  failures : Nat
  lastRaise : Option Nat
  refusal : Option RetryRefusal
  deriving DecidableEq, Repr

/-- The cause of a PATH_STATE report (R109). -/
inductive PathCause where
  | request | announcement | line | pan | earth | feedback | breakerOpened | timeout | odometer | safe | commit
  deriving DecidableEq, Repr

/-- PATH_STATE (R109). Next target, opening reason and coast kind are the parameters of `state`. -/
structure PathReport where
  state : PathState
  previous : PathState
  target : Option SysId
  present : Option SysId
  coastEnd : Option Nat
  lowerZone : Bool
  expected : Option SysId
  cause : PathCause
  id : Option Nat
  fault : Option FaultKind
  changeRequired : Bool
  odometer : Nat
  deriving DecidableEq, Repr

/-- The cause of an ICE_ZONE report in its zone form (R134). -/
inductive ZoneCause where
  | evaluation | feedback | request | start
  deriving DecidableEq, Repr

/-- ICE_ZONE in its zone form (R134). -/
structure ZoneReport where
  zone : ZoneId
  state : ZoneState
  previous : ZoneState
  demand : Demand
  mode : ZoneMode
  budget : Nat
  sumOn : Nat
  cause : ZoneCause
  deriving DecidableEq, Repr

/-- The cause of an ICE_ZONE report in its level form (R134). -/
inductive LevelCause where
  | raiseOk | raiseSlow | timeout | disturbed | heat | request
  deriving DecidableEq, Repr

/-- ICE_ZONE in its level form (R134). -/
structure LevelReport where
  pan : PanId
  level : IceLevel
  previous : IceLevel
  cause : LevelCause
  deriving DecidableEq, Repr

/-- ICE_PROGRAM (R134): the program after the change, its previous state (none at its start), its end. -/
structure ProgramReport where
  program : Program
  previous : Option ProgramState
  ended : Option ProgramEnd
  deriving DecidableEq, Repr

/-- The kind of a QUALITY report (R146). -/
inductive QualityKind where
  | periodic | closing
  deriving DecidableEq, Repr

/-- What a QUALITY report carries of a pan (R146). -/
structure QualitySummary where
  state : QualityState
  period : Nat
  total : Nat
  contact : Nat
  synthetic : Nat
  deriving DecidableEq, Repr

/-- QUALITY (R146). -/
structure QualityReport where
  gate : Gate
  period : Period
  kind : QualityKind
  records : Vector QualitySummary 4
  deriving DecidableEq, Repr

/-- The event of a FAULT report (R163). -/
inductive FaultEvent where
  | raised | ended
  deriving DecidableEq, Repr

/-- What became of a fault's entry (R163). -/
inductive FaultOutcome where
  | held (s : FaultState)
  | removed
  | notStored
  deriving DecidableEq, Repr

/-- Occurrences and odometers of an entry (R163). -/
structure FaultCounts where
  occurrences : Nat
  first : Nat
  last : Nat
  deriving DecidableEq, Repr

/-- FAULT (R163). -/
structure FaultReport where
  event : FaultEvent
  kind : FaultKind
  subject : Subject
  severity : Severity
  outcome : FaultOutcome
  counts : Option FaultCounts
  replaced : Option (FaultKind × Subject)
  overflow : Nat
  escalated : Bool
  deriving DecidableEq, Repr

/-- The cause of an OUTPUT_MODE report (R180). -/
inductive ModeCause where
  | request | escalation | linkBreak | start | expiry | startup
  deriving DecidableEq, Repr

/-- OUTPUT_MODE (R180). -/
structure ModeReport where
  mode : OutputMode
  previous : OutputMode
  timer : Bool
  cause : ModeCause
  bc : Bool
  bt : Bool
  sd : SelectorDrive
  deriving DecidableEq, Repr

/-- The reports of R198. -/
inductive Report where
  | startReport (r : StartReport)
  | applyResult (pan : PanId) (inForce : Profile) (status : ConfigStatus)
  | lineState (r : LineReport)
  | marker (e : MarkerEvent) (odometer : Nat)
  | panState (r : PanReport)
  | pathState (r : PathReport)
  | iceZone (r : ZoneReport)
  | iceLevel (r : LevelReport)
  | iceProgram (r : ProgramReport)
  | quality (r : QualityReport)
  | fault (r : FaultReport)
  | outputMode (r : ModeReport)
  deriving DecidableEq, Repr

/-! ### Replies (R183, R197) -/

/-- The framer's state without the bytes it holds (R185). -/
inductive FramerState where
  | hunt | length | body | check
  deriving DecidableEq, Repr

/-- The break watch (R192). -/
inductive BreakWatch where
  | normal | break_
  deriving DecidableEq, Repr

/-- The last slip cause (R183). -/
inductive SlipCause where
  | none | replacedPeriodic | discardedNew | flushed
  deriving DecidableEq, Repr

/-- The reply of IDENTIFY (R193). The values of the vendor code and the part code are log 24, their width of two bytes
log 9. -/
structure IdentifyView where
  vendor : Half
  part : Half
  issue : Nat
  format : Nat
  load : LoadState
  image : Option ImageStatus
  version : Option Half
  deriving DecidableEq, Repr

/-- The reply of STATUS (R194). -/
structure StatusView where
  load : LoadState
  kind : StartKind
  mode : OutputMode
  timer : Bool
  framer : FramerState
  watch : BreakWatch
  checkErrors : Nat
  abandoned : Nat
  overruns : Nat
  breaks : Nat
  lost : Nat
  slip : SlipCause
  replies : Nat
  reports : Nat
  faults : Nat
  tripActive : Bool
  deriving DecidableEq, Repr

/-- What READ_PROFILE returns of a pan (R11). -/
structure ProfileView where
  staged0 : Profile
  staged1 : Profile
  active : Profile
  inForce : Profile
  mark : Bool
  status : ConfigStatus
  deriving DecidableEq, Repr

/-- The four conditions of R4, as READ_SYSTEM returns them (R6). -/
structure Protection where
  inForce : Bool
  active : Bool
  target : Bool
  candidate : Bool
  deriving DecidableEq, Repr

/-- The reply of READ_LINE (R35); the threshold in volts, the latest magnitude in tenths of a kV and the latest
frequency estimate in tenths of a Hz, as they are reported (R24, R25). -/
structure LineView where
  state : LineState
  reported : Option SysId
  runSystem : Option SysId
  runCount : Option Nat
  good : Option Nat
  bad : Option Nat
  threshold : Nat
  latest : Measurement
  deriving DecidableEq, Repr

/-- The reply of an accepted ANNOUNCE (R51). -/
structure AnnounceView where
  outcome : OfferOutcome
  id : Nat
  trigger : Nat
  source : Source
  evicted : Option Nat
  merged : List Nat
  deriving DecidableEq, Repr

/-- An entry of READ_ANNOUNCEMENTS with its due position (R53). -/
structure QueuedView where
  entry : Announcement
  due : Nat
  deriving DecidableEq, Repr

/-- The reply of READ_ANNOUNCEMENTS (R53). -/
structure QueueView where
  entries : List QueuedView
  nextId : Nat
  odometer : Nat
  speed : Nat
  deriving DecidableEq, Repr

/-- The reply of READ_ODOMETER (R55). -/
structure OdometerView where
  odometer : Nat
  remainder : Nat
  speed : Nat
  perPulse : Nat
  validation : Validation
  declared : Option DeclaredPair
  pairs : Nat
  telegrams : Nat
  parityErrors : Nat
  declarations : Nat
  unmapped : Nat
  deriving DecidableEq, Repr

/-- What READ_PAN returns of a pan (R80). -/
structure PanView where
  pan : Pan
  force : Nat
  inputs : PanInputs
  rv : Option Nat
  qv : Bool
  earthed : Bool
  airLow : Bool
  deriving DecidableEq, Repr

/-- The four parts of the closing condition (R89, R94). -/
structure ClosingParts where
  recognized : Bool
  panUp : Bool
  selector : Bool
  unearthed : Bool
  deriving DecidableEq, Repr

/-- The reply of READ_PATH (R94). -/
structure PathView where
  path : Path
  present : Option SysId
  coastEnd : Option Nat
  bc : Bool
  bt : Bool
  sd : SelectorDrive
  breakerClosed : Bool
  selector : Option Position
  earthed : Bool
  line : LineState
  closing : ClosingParts
  deriving DecidableEq, Repr

/-- What the heater budget is taken from (R132). -/
inductive BudgetSource where
  | mode
  | live (s : Option SysId)
  | standby
  deriving DecidableEq, Repr

/-- The reply of READ_ICE (R132). -/
structure IceView where
  zones : Vector Zone 12
  commanded : Vector Bool 12
  driven : Vector Bool 12
  budget : Nat
  sumOn : Nat
  source : BudgetSource
  temperature : Int
  wet : Bool
  icing : Int
  cold : Bool
  weather : Bool
  levels : Vector IceLevel 4
  programs : List Program
  permit : Bool
  standby : Nat
  scrapeLength : Nat
  deriving DecidableEq, Repr

/-- What READ_QUALITY returns of a pan (R149). -/
structure QualityView where
  record : QualityRecord
  measuring : Bool
  offset : Nat
  force : Nat
  deriving DecidableEq, Repr

/-- The reply of READ_QUALITY (R149). -/
structure CqmView where
  gate : Gate
  period : Period
  reports : Bool
  clock : Nat
  disturb : Nat
  clean : Nat
  records : List QualityView
  deriving DecidableEq, Repr

/-- The reply of READ_FAULTS (R164). -/
structure FaultsView where
  faults : List FaultEntry
  overflow : Nat
  earthed : Bool
  airLow : Bool
  watch : Watch
  backfeed : Bool
  deriving DecidableEq, Repr

/-- The feedback values of the channels that have one (R167, R173): BC and BT read the one breaker feedback. -/
structure ChannelFeedback where
  hz : Vector Bool 12
  bc : Bool
  bt : Bool
  sd : Option Position
  deriving DecidableEq, Repr

/-- The reply of SAMPLE (R173). -/
structure SampleView where
  mode : OutputMode
  exitTimer : Option Nat
  commanded : Channels
  preload : Channels
  safe : Channels
  driven : Channels
  feedback : ChannelFeedback
  lines : Lines
  deriving DecidableEq, Repr

/-- What an OK reply carries, by request (R197). -/
inductive Payload where
  | nothing
  | identify (v : IdentifyView)
  | status (v : StatusView)
  | profiles (pans : List ProfileView) (passOnly : Bool)
  | applied (accepted : List (PanId × ConfigStatus)) (ignored : List PanId) (rejected : List (PanId × ConfigStatus))
  | system (content : Option Descriptor) (protection : Protection)
  | line (v : LineView)
  | announced (v : AnnounceView)
  | withdrawn (entry : Announcement)
  | announcements (v : QueueView)
  | validation (v : Validation)
  | odometer (v : OdometerView)
  | panState (s : PanState)
  | pans (v : List PanView)
  | connected (s : SysId)
  | auto (on : Bool)
  | path (v : PathView)
  | zone (mode : ZoneMode) (state : ZoneState)
  | level (previous : IceLevel) (new : IceLevel)
  | program (p : Program)
  | ice (v : IceView)
  | gate (g : Gate)
  | qualitySetup (period : Period) (reports : Bool) (disturb : Nat) (clean : Nat)
  | quality (v : CqmView)
  | faults (v : FaultsView)
  | acknowledged (outcome : FaultOutcome)
  | acknowledgedAll (acknowledged : Nat) (removed : Nat)
  | sample (v : SampleView)
  | preload (c : Channels)
  | mode (m : OutputMode) (timer : Bool)
  deriving DecidableEq, Repr

/-- The detail of INTERLOCK (R171, R183). -/
inductive Detail where
  | path | pans | bcPreload
  deriving DecidableEq, Repr

/-- The result of a reply (R183). -/
inductive Result where
  | ok (p : Payload)
  | busy
  | refused (r : Reason)
  | notReady
  | unknownId
  | full
  | mode
  | interlock (d : Detail)
  deriving DecidableEq, Repr

/-- A reply: the request's code, its tag, and the result (R187). -/
structure Reply where
  code : Byte
  tag : Byte
  result : Result
  deriving DecidableEq, Repr

/-! ### LNK: the link (chapter 10) -/

/-- An entry of the outbound queue (R188). -/
inductive Entry where
  | reply (r : Reply)
  | report (r : Report)
  deriving DecidableEq, Repr

/-- The entry in transmission, with the lost-report count and slip cause written into a report's opening bytes
(R191); for a reply they are 0 and none, and are not sent. -/
structure Sent where
  entry : Entry
  lost : Nat
  slip : SlipCause
  deriving DecidableEq, Repr

/-- The receive framer (R185): in BODY, the length L and the bytes held from the type on; in CHECK, those bytes and
the first check byte. -/
inductive Framer where
  | hunt
  | length
  | body (len : Nat) (held : List Byte)
  | check (held : List Byte) (first : Option Byte)
  deriving DecidableEq, Repr

/-- What LNK holds (R185 to R192). `waiting` is the queue behind the entry in transmission. -/
structure Link where
  framer : Framer
  watch : BreakWatch
  checkErrors : Nat
  abandoned : Nat
  overruns : Nat
  breaks : Nat
  lost : Nat
  slip : SlipCause
  sending : Option Sent
  waiting : List Entry
  holding : Bool
  deriving DecidableEq, Repr

/-! ### The machine -/

/-- The state of the TK-40. `order` is the model's own: the coded choices of the order in which notices that the
manual leaves without an order are taken (log 6). `pending` is the queue of commands that wait. -/
structure State where
  lines : Lines
  link : Link
  loader : Loader
  store : Store
  sense : Sense
  marker : Marker
  pans : Vector Pan 4
  panTimes : PanTimes
  path : Path
  pathTimes : PathTimes
  ice : Ice
  cqm : Cqm
  ifu : Ifu
  outputs : Outputs
  order : Nat
  pending : List Instr
  deriving DecidableEq, Repr

/-- Why a step can stop with a fault: no rule of the manual gives a command that stops the controller, so there is no
such reason (safe: the type is empty, and every step goes on). -/
inductive Fault where
  deriving DecidableEq, Repr

/-- Why a step can be refused. -/
inductive Refusal where
  /-- Raised by an arm of `exec` whose command has no meaning yet; safe, since the machine stops. No arm does. -/
  | notModelled (mnemonic : String)
  deriving DecidableEq, Repr

/-! ### Reset -/

/-- The inputs of a pan, all inactive (log 2). -/
def PanInputs.reset : PanInputs := { headUp := false, headDown := false, contact := false, breach := false }

/-- The input lines, all inactive (log 2). -/
def Lines.reset : Lines :=
  { pans := .replicate 4 PanInputs.reset, breakerClosed := false, selector := none,
    contactors := .replicate 12 false, bus := 0, arcPulse := false, earthClosed := false, airLow := false,
    ambient := 0, wet := false, resetAsserted := false }

/-- LNK at a cold start (R196); reports are held until the START_REPORT (R188). -/
def Link.reset : Link :=
  { framer := .hunt, watch := .normal, checkErrors := 0, abandoned := 0, overruns := 0, breaks := 0, lost := 0,
    slip := .none, sending := none, waiting := [], holding := true }

/-- CIL at power-on with the reset line released (R203). -/
def Loader.reset : Loader :=
  { state := .loading, image := none, version := none, kind := .cold, cause := .powerOn, removedAnnouncements := 0,
    removedPrograms := 0, abortedPans := [] }

/-- PRF before a cold start's load ends (R7, R20, R21; log 3). -/
def Store.reset : Store :=
  { descriptors := .replicate 8 none, staged0 := .replicate 4 Profile.idle, staged1 := .replicate 4 Profile.idle,
    active := .replicate 4 Profile.idle, marks := .replicate 4 false, status := .replicate 4 .idle, passOnly := false }

/-- The measurements before the first window after a start-up (R35). -/
def Measurement.reset : Measurement :=
  { number := 0, magnitude := none, kind := none, frequency := none, clipped := none, candidate := .dead,
    deviation := none }

/-- LSR after each start-up (R38). -/
def Sense.reset : Sense :=
  { record := .dead, crossings := ([], [], []), side := none, previous := [], latest := Measurement.reset }

/-- The default lead times (R49). -/
def LeadTimes.default : LeadTimes :=
  { systemAhead := 80, neutralAhead := 10, lowerZone := 80, lowerZoneEnd := 0, icePermit := 0, iceForbid := 0 }

/-- MKR at a cold start (R57). -/
def Marker.reset : Marker :=
  { odometer := 0, remainder := 0, perPulse := 100, readings := [], speed := 0, map := .replicate 64 none,
    leads := LeadTimes.default, validation := .fourOfFive, history := [], declared := none, queue := [], nextId := 1,
    telegrams := 0, parityErrors := 0, declarations := 0, unmapped := 0 }

/-- A pan before a cold start's load ends (R59, R81; log 3). -/
def Pan.reset (fitted : Bool) (rank : Nat) : Pan :=
  { fitted := fitted, strip := .a, rank := rank, state := .down, want := .none, hold := .none, inForce := Profile.idle,
    base := 40, quality := 0, ice := 0, lastRaise := none, failures := 0, trip := none, timer := none, rising := 0,
    rate := .normal, inputs := PanInputs.reset }

/-- The default pan timers (R62). -/
def PanTimes.default : PanTimes :=
  { nominalNormal := 5000, nominalSlow := 8000, raiseNormal := 8000, raiseSlow := 12000, lower := 6000, drop := 3000,
    dipPulse := 600, dipRegain := 3000 }

/-- The path record at a start-up (R110). -/
def Path.reset : Path :=
  { state := .isolated, target := none, auto := true, lowerZone := false, expected := none,
    claims := .replicate 4 .none, timer := none }

/-- The default path timers (R85). -/
def PathTimes.default : PathTimes :=
  { selector := 3000, closeAc := 200, closeDc := 200, openAc := 100, openDc := 100, awaitLine := 30000,
    lossCoast := 10000 }

/-- An unfitted zone (R111, R135). Its location SELECTOR, its rated power of 0.5 kW, its priority 0 and its feedback open
are the model's choice (log 52). -/
def Zone.reset : Zone :=
  { fitted := false, location := .selector, rated := 5, priority := 0, mode := .auto, state := .off, demand := .none,
    feedback := false, check := .agree }

/-- ICE before a cold start's load ends (R135). -/
def Ice.reset : Ice :=
  { zones := .replicate 12 Zone.reset, budget := 0, programs := [], levels := .replicate 4 .clear, permit := false,
    temperature := 0, wet := false, icing := 10, standby := 20, scrapeLength := 5000 }

/-- A quality record at a cold start (R151). -/
def QualityRecord.reset : QualityRecord :=
  { state := .idle, settle := 0, clean := 0, steady := 0, arcs := 0, elapsed := none, period := 0, total := 0,
    contact := 0, windows := 0, synthetic := 0, inject := false, scrape := false }

/-- CQM at a cold start (R151). -/
def Cqm.reset : Cqm :=
  { records := .replicate 4 QualityRecord.reset, gate := .frozen, period := .one, reports := true, disturb := 6,
    clean := 1, clock := 0 }

/-- IFU at a cold start, its readings at the levels of `Lines.reset` (R152, R165). -/
def Ifu.reset : Ifu := { earthed := false, airLow := false, faults := [], overflow := 0, watch := .quiet }

/-- AOS from power-on (R181). -/
def Outputs.reset : Outputs :=
  { mode := .safe, exitTimer := none, commanded := Channels.safe, preload := Channels.safe }

/-- The machine right after power-on with the reset line released: a cold start's load runs (R203; log 1). -/
def State.reset : State :=
  { lines := Lines.reset, link := Link.reset, loader := Loader.reset, store := Store.reset, sense := Sense.reset,
    marker := Marker.reset, pans := #v[Pan.reset true 1, Pan.reset true 2, Pan.reset false 3, Pan.reset false 4],
    panTimes := PanTimes.default, path := Path.reset, pathTimes := PathTimes.default, ice := Ice.reset,
    cqm := Cqm.reset, ifu := Ifu.reset, outputs := Outputs.reset, order := Config.order, pending := [] }

end Sys2Proof.Machine
end

