-- ==== Sys2Proof/Machine/Notice.lean ====
section
/-! DEFINITION. The notices that the blocks of the TK-40 send each other inside one step (00 section 1.4; R78, R109,
R134, R142, R163, R174), and the pair of a state and the notices that are still to be taken. -/

namespace Sys2Proof.Machine

/-- A message from ICE to PAN about a retry (R70); DECLINED carries its reason (R126). -/
inductive RetryMessage where
  | armed
  | declined (d : DeclineReason)
  | retry
  | cancelled
  deriving DecidableEq, Repr

/-- A notice from one block to another, by the block that takes it. -/
inductive Notice where
  /- to PAN -/
  | pathRaise (p : PanId)
  | pathRelease (p : PanId)
  | pathLower (p : PanId)
  | retryMessage (p : PanId) (m : RetryMessage)
  | dip (p : PanId)
  | qualityOffset (p : PanId) (n : Nat)
  | iceOffset (p : PanId) (n : Nat)
  | panSafe
  /- SAFE entry behind the lowers and releases that CHG has sent on its own SAFE entry (R108) -/
  | panSafeBehind
  | panResume
  /- to CHG -/
  | panMoved (p : PanId) (old new : PanState) (system : Option SysId)
  | claimAnswer (p : PanId) (c : Claim)
  | wantGone (p : PanId) (why : Option ClaimReason)
  | pathDue (a : Announcement)
  | recognized (s : SysId)
  | lost (s : SysId)
  | lineDead
  | odometerMoved
  | earthingMoved
  | pathSafe
  | pathResume
  /- to ICE -/
  | raiseOk (p : PanId) (time nominal : Nat)
  | raiseTimedOut (p : PanId) (failures : Nat)
  | dipRefused (p : PanId)
  | dipDone (p : PanId)
  | dipFailed (p : PanId)
  | dipLeft (p : PanId)
  | retryWithdrawn (p : PanId)
  | panEnteredUp (p : PanId)
  | panLeft (p : PanId)
  | pathMoved (path : Path)
  | disturbed (p : PanId)
  | iceDue (a : Announcement)
  | profileWritten
  | modeMoved (mode : OutputMode)
  | iceResume
  | metres (n : Nat)
  | iceStart
  /- to CQM -/
  | cqmPan (p : PanId)
  | cqmPath
  | scrapeMoved (p : PanId) (running : Bool)
  | cqmResume
  /- to PRF -/
  | passPoint (p : PanId)
  /- to IFU -/
  | raised (k : FaultKind) (j : Subject)
  | ended (k : FaultKind) (j : Subject)
  | ifuStart
  /- to AOS -/
  | safeOrder (cause : ModeCause)
  /- to MKR, from itself: an entry found due, whose hand-off comes next -/
  | due (a : Announcement)
  deriving DecidableEq, Repr

/-- A block of the controller that takes notices (00 section 1.3). -/
inductive Block where
  | prf | mkr | pan | chg | ice | cqm | ifu | aos
  deriving DecidableEq, Repr

/-- The block that takes a notice. -/
def Notice.block : Notice → Block
  | .pathRaise _ | .pathRelease _ | .pathLower _ | .retryMessage _ _ | .dip _ | .qualityOffset _ _ | .iceOffset _ _
  | .panSafe | .panSafeBehind | .panResume => .pan
  | .panMoved _ _ _ _ | .claimAnswer _ _ | .wantGone _ _ | .pathDue _ | .recognized _ | .lost _ | .lineDead
  | .odometerMoved | .earthingMoved | .pathSafe | .pathResume => .chg
  | .raiseOk _ _ _ | .raiseTimedOut _ _ | .dipRefused _ | .dipDone _ | .dipFailed _ | .dipLeft _ | .retryWithdrawn _
  | .panEnteredUp _ | .panLeft _ | .pathMoved _ | .disturbed _ | .iceDue _ | .profileWritten | .modeMoved _
  | .iceResume | .metres _ | .iceStart => .ice
  | .cqmPan _ | .cqmPath | .scrapeMoved _ _ | .cqmResume => .cqm
  | .passPoint _ => .prf
  | .raised _ _ | .ended _ _ | .ifuStart => .ifu
  | .safeOrder _ => .aos
  | .due _ => .mkr

/-- The block that raises a fault kind (R155), which tells apart the lanes into IFU. -/
def FaultKind.lane : FaultKind → Nat
  | .raiseTimeout | .lowerTimeout | .stripBreach | .airLoss => 30
  | .selectorTimeout | .breakerNoClose | .breakerStuckClosed | .lineLostUnannounced | .systemMismatch
  | .noPanForSystem | .awaitExpired => 31
  | .roofBackfeed => 32
  | .heaterFeedback => 33
  | .announceOverflow => 34
  | .configImageInvalid => 35
  | .linkBreak => 36
  | .driveExitExpired => 37

/-- The lane of a notice: notices from one block to another keep their order, and notices of different lanes stand
in no order (R78, R109, R134; log 6). LNK's SAFE order and IFU's come to AOS in either order (R174), and PAN's SAFE entry
stands behind CHG's claims where CHG has taken its own first (R108). Hand-offs and odometer advances come to a block in
lanes of their own. -/
def Notice.lane : Notice → Nat
  | .pathRaise _ | .pathRelease _ | .pathLower _ | .panSafeBehind => 0
  | .retryMessage _ _ | .dip _ | .iceOffset _ _ => 1
  | .qualityOffset _ _ => 2
  | .panSafe | .panResume => 3
  | .panMoved _ _ _ _ | .claimAnswer _ _ | .wantGone _ _ => 4
  | .pathDue _ => 5
  | .odometerMoved => 6
  | .recognized _ | .lost _ | .lineDead => 7
  | .earthingMoved => 8
  | .pathSafe | .pathResume => 9
  | .raiseOk _ _ _ | .raiseTimedOut _ _ | .dipRefused _ | .dipDone _ | .dipFailed _ | .dipLeft _ | .retryWithdrawn _
  | .panEnteredUp _ | .panLeft _ => 10
  | .pathMoved _ => 11
  | .disturbed _ => 12
  | .iceDue _ => 13
  | .profileWritten => 14
  | .modeMoved _ | .iceResume => 15
  | .metres _ => 16
  | .iceStart => 17
  | .cqmPan _ => 18
  | .cqmPath => 19
  | .scrapeMoved _ _ => 20
  | .cqmResume => 21
  | .passPoint _ => 22
  | .safeOrder .linkBreak => 23
  | .due _ => 24
  | .ifuStart => 25
  | .safeOrder _ => 26
  | .raised k _ | .ended k _ => k.lane

/-- A claim of CHG on a pan (R67). -/
def Notice.isClaim : Notice → Bool
  | .pathRaise _ | .pathRelease _ | .pathLower _ => true
  | _ => false

/-- What ICE has been told: the path by CHG and the output mode by AOS (R114). It is what stands whenever a step begins,
since every notice of the step before has been taken, and may differ from it only inside a step. -/
structure Told where
  path : Path
  mode : OutputMode
  deriving DecidableEq, Repr

/-- What there is to tell ICE. -/
def State.tells (s : State) : Told := { path := s.path, mode := s.outputs.mode }

/-- A state inside a step, with the notices that are still to be taken, oldest first, and what ICE has been told. -/
structure Sys where
  st : State
  todo : List Notice
  told : Told := st.tells
  deriving DecidableEq, Repr

/-- A request being decided: its code and its tag, which its reply carries back (R187). -/
structure Call where
  code : Byte
  tag : Byte
  deriving DecidableEq, Repr

end Sys2Proof.Machine
end

