-- ==== Sys2Proof/Machine/Flags.lean ====
section
/-! DEFINITION. The conditions and values that the manual derives from the state: what AOS drives, who is held, the
effective force, the closing condition, what IFU answers, the budget, the weather. -/

namespace Sys2Proof.Machine

/-- `v` with place `i` holding `x`. -/
def put {α : Type} {n : Nat} (v : Vector α n) (i : Fin n) (x : α) : Vector α n := v.set i.val x i.isLt

/-! ### Start-up and modes -/

/-- No load runs and the reset line is not held (R203). -/
def State.loaded (s : State) : Bool :=
  match s.loader.state with
  | .doneValid | .doneDefaults => true
  | .idle | .loading => false

/-- PAN, CHG, ICE and CQM are held: in DRIVE, the drive-exit timer included (R176). -/
def State.held (s : State) : Bool := s.outputs.mode = .drive

/-- PAN, CHG, ICE and CQM take events: no load runs (R203) and they are not held (R176). -/
def State.jobsRun (s : State) : Bool := s.loaded && !s.held

/-- The driven value of every channel (R169). -/
def Outputs.driven (o : Outputs) : Channels :=
  match o.mode with
  | .run => o.commanded
  | .clamp => o.preload
  | .safe => Channels.safe
  | .drive => match o.exitTimer with
    | none => o.preload
    | some _ => Channels.safe

/-! ### Pans -/

/-- The pan record of P1 to P4. -/
def State.pan (s : State) (p : PanId) : Pan := s.pans.get p

/-- The effective force (R64). -/
def Pan.effective (r : Pan) : Nat := min 160 (r.base + r.quality + r.ice)

/-- A pan in RISING, UP or DIPPING (R65). -/
def PanState.raised : PanState → Bool
  | .rising | .up | .dipping => true
  | .down | .falling | .dropping | .tripped => false

/-- A pan in DOWN or TRIPPED (R17, R105, R161). -/
def PanState.lowered : PanState → Bool
  | .down | .tripped => true
  | .rising | .up | .dipping | .falling | .dropping => false

/-- Head-up as it reads: with head-down also true it is taken as not up (R60). -/
def PanInputs.up (i : PanInputs) : Bool := i.headUp && !i.headDown

/-- Head-down as it reads: with head-up also true it is taken as not down (R60). -/
def PanInputs.down (i : PanInputs) : Bool := i.headDown && !i.headUp

/-- The raise rate of a profile; a profile that is not explicit raises at NORMAL (R8, R62). -/
def Profile.rate (f : Profile) : RaiseRate :=
  match f.explicit with
  | some e => e.rate
  | none => .normal

/-- The descriptor of a system index, none for S0 and for an empty entry (R1, R2). -/
def State.descriptor (s : State) : Option SysId → Option Descriptor
  | none => none
  | some i => s.store.descriptors.get i

/-- A descriptor admits a strip class (R2). -/
def StripAdmitted.admits : StripAdmitted → StripClass → Bool
  | .any, _ => true
  | .a, .a => true
  | .b, .b => true
  | .a, .b => false
  | .b, .a => false

/-- The force base of a profile under the descriptor table (R63). A system whose descriptor is empty gives none;
the base is then 40 N, as for S0 (log 28). -/
def State.forceBase (s : State) (f : Profile) : Nat :=
  match f.explicit with
  | some e => e.force
  | none => match s.descriptor f.system with
    | some d => d.force
    | none => 40

/-- How many pans other than `p` satisfy `ok` (R65 condition 10). -/
def State.countOthers (s : State) (p : PanId) (ok : Pan → Bool) : Nat :=
  (allPans.filter fun q => decide (q ≠ p) && ok (s.pan q)).length

/-- Some pan whose in-force system is `t` is in UP (R89). -/
def State.panUpFor (s : State) (t : Option SysId) : Bool :=
  allPans.any fun p => decide ((s.pan p).state = .up) && decide ((s.pan p).inForce.system = t)

/-- Every fitted pan is in DOWN or TRIPPED (R105, R161, R171). -/
def State.allDown (s : State) : Bool := allPans.all fun p => !(s.pan p).fitted || (s.pan p).state.lowered

/-- A pan at its pass point: DOWN or TRIPPED with a raise-want other than PATH (R17). -/
def Pan.atPassPoint (r : Pan) : Bool := r.state.lowered && decide (r.want ≠ .path)

/-- Another pan with the in-force system of `p` is in UP (R72, R122). -/
def State.covered (s : State) (p : PanId) : Bool :=
  allPans.any fun q => decide (q ≠ p) && decide ((s.pan q).state = .up)
    && decide ((s.pan q).inForce.system = (s.pan p).inForce.system)

/-! ### The line record -/

/-- The record's state with its system (R34). -/
def LineRecord.shown : LineRecord → LineState
  | .dead => .dead
  | .acquiring _ _ => .acquiring
  | .recognized s => .recognized s
  | .suspect s _ _ => .suspect s

/-- The reported system, none for UNKNOWN (R32). -/
def LineRecord.reported : LineRecord → Option SysId
  | .recognized s => some s
  | .suspect s _ _ => some s
  | .dead | .acquiring _ _ => none

/-- The lowest nominal voltage among present descriptors (R26). -/
def lowestNominal : List (Option Descriptor) → Option Nat
  | [] => none
  | none :: l => lowestNominal l
  | some d :: l => match lowestNominal l with
    | none => some d.nominal
    | some n => some (min d.nominal n)

/-- The DEAD threshold in volts: 30 % of the lowest nominal voltage of the present descriptors (in hundreds of
volts), 0.3 kV where there is none (R26). -/
def State.deadThreshold (s : State) : Nat :=
  match lowestNominal s.store.descriptors.toList with
  | some n => 30 * n
  | none => 300

/-! ### The path -/

/-- The path is LIVE. -/
def Path.isLive (p : Path) : Bool := p.state = .live

/-- The present system: the target in LIVE, S0 in every other state (R83). -/
def Path.present (p : Path) : Option SysId := if p.isLive then p.target else none

/-- The next target, present in CHANGING and in OPENING(CHANGE) (R83). -/
def PathState.next : PathState → Option SysId
  | .opening (.change n) => some n
  | .changing n => some n
  | .isolated | .selecting | .awaitLine | .closing | .live | .opening _ | .coasting _ | .faulted _ => none

/-- The coast end: a position in OPENING(NEUTRAL) and COASTING(NEUTRAL), the remaining time in COASTING(LOSS)
(R83). -/
def Path.coastEnd (p : Path) : Option Nat :=
  match p.state with
  | .opening (.neutral e) => some e
  | .coasting (.neutral e) => some e
  | .coasting .loss => p.timer.map PathTimer.remaining
  | _ => none

/-- The target descriptor's selector position (R86). -/
def State.targetPosition (s : State) (t : Option SysId) : Option Position :=
  match s.descriptor t with
  | some d => some d.selector
  | none => none

/-- The selector feedback reads the target descriptor's selector position (R89). -/
def State.selectorArrived (s : State) (t : Option SysId) : Bool :=
  match s.targetPosition t with
  | some n => s.lines.selector = some n
  | none => false

/-- LSR is in RECOGNIZED(target) (R89). -/
def State.recognizes (s : State) (t : Option SysId) : Bool :=
  match s.sense.record with
  | .recognized r => t = some r
  | _ => false

/-- The four parts of the closing condition (R89). -/
def State.closing (s : State) : ClosingParts :=
  { recognized := s.recognizes s.path.target
    panUp := s.path.target.isSome && s.panUpFor s.path.target
    selector := s.selectorArrived s.path.target
    unearthed := !s.ifu.earthed }

/-- The closing condition (R89). -/
def ClosingParts.holds (c : ClosingParts) : Bool := c.recognized && c.panUp && c.selector && c.unearthed

/-- A claim is live (R84). -/
def Claim.isLive : Claim → Bool
  | .sent | .taken | .held => true
  | .none | .refused _ | .ended => false

/-! ### Faults -/

/-- The severity of a kind (R155). -/
def FaultKind.severity : FaultKind → Severity
  | .raiseTimeout | .breakerNoClose | .lineLostUnannounced | .systemMismatch | .noPanForSystem | .awaitExpired
  | .heaterFeedback => .degrade
  | .lowerTimeout | .stripBreach | .airLoss | .selectorTimeout | .breakerStuckClosed | .roofBackfeed | .linkBreak =>
    .trip
  | .announceOverflow | .configImageInvalid | .driveExitExpired => .note

/-- Whether a kind is momentary (R155). -/
def FaultKind.momentary : FaultKind → Bool
  | .raiseTimeout | .breakerNoClose | .lineLostUnannounced | .systemMismatch | .noPanForSystem | .awaitExpired
  | .announceOverflow | .configImageInvalid | .linkBreak | .driveExitExpired => true
  | .lowerTimeout | .stripBreach | .airLoss | .selectorTimeout | .breakerStuckClosed | .roofBackfeed
  | .heaterFeedback => false

/-- Whether a subject fits a kind (R155). -/
def FaultKind.fits : FaultKind → Subject → Bool
  | .raiseTimeout, .pan _ | .lowerTimeout, .pan _ | .stripBreach, .pan _ | .airLoss, .pan _ => true
  | .selectorTimeout, .path | .breakerNoClose, .path | .breakerStuckClosed, .path | .lineLostUnannounced, .path
  | .systemMismatch, .path | .noPanForSystem, .path | .awaitExpired, .path => true
  | .heaterFeedback, .zone _ => true
  | .roofBackfeed, .none | .announceOverflow, .none | .configImageInvalid, .none | .linkBreak, .none
  | .driveExitExpired, .none => true
  | _, _ => false

/-- An entry is active (R154). -/
def FaultState.active : FaultState → Bool
  | .activeUnack | .activeAck => true
  | .clearedUnack => false

/-- An entry of a kind and subject. -/
def FaultEntry.names (e : FaultEntry) (k : FaultKind) (j : Subject) : Bool :=
  decide (e.kind = k) && decide (e.subject = j)

/-- The entry of a kind and subject, if the table holds one (R156). -/
def Ifu.entry (i : Ifu) (k : FaultKind) (j : Subject) : Option FaultEntry := i.faults.find? fun e => e.names k j

/-- Some TRIP entry is active (R194, R204). -/
def Ifu.tripActive (i : Ifu) : Bool :=
  i.faults.any fun e => decide (e.kind.severity = .trip) && e.state.active

/-- The escalation test: a TRIP raise finds another TRIP entry active (R160). -/
def Ifu.escalates (i : Ifu) (k : FaultKind) (j : Subject) : Bool :=
  decide (k.severity = .trip)
    && i.faults.any fun e => !e.names k j && decide (e.kind.severity = .trip) && e.state.active

/-- IFU's answer whether roof backfeed is active (R162). -/
def Ifu.backfeed (i : Ifu) : Bool :=
  (match i.entry .roofBackfeed .none with
    | some e => e.state.active
    | none => false)
  || decide (i.watch = .present false)

/-! ### Ice -/

/-- The roof is cold (R112). -/
def Ice.cold (i : Ice) : Bool := i.temperature ≤ i.icing

/-- Icing weather holds (R112). -/
def Ice.weather (i : Ice) : Bool := i.cold && i.wet

/-- What the heater budget is taken from (R114, R132). -/
def State.budgetSource (s : State) : BudgetSource :=
  match s.outputs.mode with
  | .safe | .drive => .mode
  | .run | .clamp => if s.path.isLive then .live s.path.present else .standby

/-- The heater budget (R114). -/
def State.heaterBudget (s : State) : Nat :=
  match s.budgetSource with
  | .mode => 0
  | .live t => match s.descriptor t with
    | some d => d.budget
    | none => 0
  | .standby => s.ice.standby

/-- The head zone of a pan (R111): there is at most one, since the load takes any further one as unfitted. -/
def Ice.headZone (i : Ice) (p : PanId) : Option ZoneId :=
  allZones.find? fun z => (i.zones.get z).fitted && decide ((i.zones.get z).location = .panHead p)

/-- The program of a pan (R120). -/
def Ice.program (i : Ice) (p : PanId) : Option Program := i.programs.find? fun g => g.pan = p

/-- The rated power of a zone in ON, 0 for any other. -/
def Zone.power (z : Zone) : Nat := if z.state = .on then z.rated else 0

/-- The sum of rated power of the zones in ON (R115). -/
def sumOn (zones : Vector Zone 12) : Nat := (allZones.map fun z => (zones.get z).power).sum

/-- The conditions of a DIP program on a pan (R122). -/
def State.dipConditions (s : State) (p : PanId) : Bool :=
  (decide ((s.pan p).state = .up) || decide ((s.pan p).state = .dipping)) && (!s.path.isLive || s.covered p)

/-! ### Quality -/

/-- A pan is measuring: UP under a LIVE path (R138). -/
def State.measures (s : State) (p : PanId) : Bool := decide ((s.pan p).state = .up) && s.path.isLive

/-- A quality record that is measuring (R137: IDLE while it is not). -/
def QualityRecord.measuring (r : QualityRecord) : Bool := r.state ≠ .idle

/-- The report period in ms (R146). -/
def Period.ms : Period → Nat
  | .one => 1000
  | .five => 5000

/-! ### The outbound queue -/

/-- A report. -/
def Entry.isReport : Entry → Bool
  | .report _ => true
  | .reply _ => false

/-- A QUALITY report. -/
def Entry.isQuality : Entry → Bool
  | .report (.quality _) => true
  | _ => false

/-- The entries of the queue, the one in transmission first (R188). -/
def Link.entries (l : Link) : List Entry :=
  match l.sending with
  | some e => e.entry :: l.waiting
  | none => l.waiting

/-- How many reports stand in the queue (R190). -/
def Link.reports (l : Link) : Nat := (l.entries.filter Entry.isReport).length

/-- How many replies stand in the queue (R189). -/
def Link.replies (l : Link) : Nat := (l.entries.filter fun e => !e.isReport).length

/-- A frame is in progress (R185). -/
def Framer.inProgress : Framer → Bool
  | .hunt => false
  | .length | .body _ _ | .check _ _ => true

/-- The framer's state (R185). -/
def Framer.shown : Framer → FramerState
  | .hunt => .hunt
  | .length => .length
  | .body _ _ => .body
  | .check _ _ => .check

end Sys2Proof.Machine
end

