-- ==== Sys2Proof/Machine/Ops.lean ====
section
/-! DEFINITION. The named operations that the blocks share: the outbound queue (R188 to R191, R195), posting a report,
answering a request, sending a notice, the choice of the next notice, and the commanded values of pans and path. -/

namespace Sys2Proof.Machine

/-- A count held at 65,535. -/
def sat16 (n : Nat) : Nat := min n 65535

/-- A count held at 4,294,967,295. -/
def sat32 (n : Nat) : Nat := min n 4294967295

/-- The first element that satisfies `p`, with the list without it. -/
def takeFirst {α : Type} (p : α → Bool) : List α → Option (α × List α)
  | [] => none
  | x :: l => if p x then some (x, l) else match takeFirst p l with
    | none => none
    | some (z, r) => some (z, x :: r)

/-- The list without its last element that satisfies `p`. -/
def dropLast {α : Type} (p : α → Bool) (l : List α) : List α :=
  match takeFirst p l.reverse with
  | none => l
  | some (_, r) => r.reverse

/-- `x` put in ahead of the first element that satisfies `p`, at the end where none does. -/
def insertAhead {α : Type} (p : α → Bool) (x : α) : List α → List α
  | [] => [x]
  | z :: l => if p z then x :: z :: l else z :: insertAhead p x l

/-- `x` put in its order by key, after those of an equal key. -/
def placeByKey {α : Type} (key : α → Nat) (l : List α) (x : α) : List α :=
  insertAhead (fun z => decide (key x < key z)) x l

/-! ### The outbound queue -/

/-- Transmission of `e` begins, with `rest` waiting; a report carries the lost-report count and the slip cause, which
return to 0 and none (R191). -/
def Link.start (l : Link) (e : Entry) (rest : List Entry) : Link :=
  match e with
  | .report _ => { l with sending := some { entry := e, lost := l.lost, slip := l.slip }, waiting := rest, lost := 0,
                          slip := .none }
  | .reply _ => { l with sending := some { entry := e, lost := 0, slip := .none }, waiting := rest }

/-- An entry may begin transmission: a reply always, a report unless reports are held (R188). -/
def Link.eligible (l : Link) (e : Entry) : Bool := !(l.holding && e.isReport)

/-- On an idle line the first entry that may leave begins transmission (R188). -/
def Link.begin (l : Link) : Link :=
  match l.sending with
  | some _ => l
  | none => match takeFirst l.eligible l.waiting with
    | none => l
    | some (e, rest) => l.start e rest

/-- A report has slipped (R190). -/
def Link.slipped (l : Link) (cause : SlipCause) : Link := { l with lost := sat16 (l.lost + 1), slip := cause }

/-- A report joins the end of the queue, or slips where 28 reports stand (R190). -/
def Link.post (l : Link) (r : Report) : Link :=
  if l.reports < 28 then Link.begin { l with waiting := l.waiting ++ [.report r] }
  else match takeFirst Entry.isQuality l.waiting with
    | some (_, rest) => Link.begin { l.slipped .replacedPeriodic with waiting := rest ++ [.report r] }
    | none => l.slipped .discardedNew

/-- A reply joins the end of the queue (R187). -/
def Link.reply (l : Link) (r : Reply) : Link := Link.begin { l with waiting := l.waiting ++ [.reply r] }

/-- The START_REPORT takes its place ahead of every held report, which are held no longer; where 28 reports stand the
newest of them slips (R188, log 26). -/
def Link.postStart (l : Link) (r : StartReport) : Link :=
  let l := if l.reports < 28 then l
    else { l.slipped .discardedNew with waiting := dropLast Entry.isReport l.waiting }
  Link.begin { l with waiting := insertAhead Entry.isReport (.report (.startReport r)) l.waiting, holding := false }

/-- The last check byte of the entry in transmission has left: its place is free and the next entry begins (R188). -/
def Link.frameSent (l : Link) : Link := Link.begin { l with sending := none }

/-- A warm restart removes every report that is not in transmission (R195); reports are held from here (R188). -/
def Link.flush (l : Link) : Link :=
  let n := (l.waiting.filter Entry.isReport).length
  { l with waiting := l.waiting.filter fun e => !e.isReport, lost := sat16 (l.lost + n),
           slip := if n = 0 then l.slip else .flushed, holding := true }

/-- A check error: the frame is dropped and counted (R186). -/
def Link.checkError (l : Link) : Link := { l with framer := .hunt, checkErrors := sat16 (l.checkErrors + 1) }

/-- A frame in progress is abandoned and counted (R185). -/
def Link.abandon (l : Link) : Link :=
  if l.framer.inProgress then { l with framer := .hunt, abandoned := sat16 (l.abandoned + 1) } else l

/-- A request is discarded for lack of a reply place (R187). -/
def Link.overrun (l : Link) : Link := { l with overruns := sat16 (l.overruns + 1) }

/-! ### A step in progress -/

/-- The state changed by `f`. -/
def Sys.edit (y : Sys) (f : State → State) : Sys := { y with st := f y.st }

/-- A report is posted into the outbound queue (R190). -/
def Sys.post (y : Sys) (r : Report) : Sys := { y with st := { y.st with link := y.st.link.post r } }

/-- The reports of a list are posted, first one first. -/
def Sys.postAll (y : Sys) : List Report → Sys
  | [] => y
  | r :: l => (y.post r).postAll l

/-- The reply to a request is queued (R187). -/
def Sys.answer (y : Sys) (c : Call) (r : Result) : Sys :=
  { y with st := { y.st with link := y.st.link.reply { code := c.code, tag := c.tag, result := r } } }

/-- The request is refused (R183). -/
def Sys.refuse (y : Sys) (c : Call) (r : Reason) : Sys := y.answer c (.refused r)

/-- A notice is sent. -/
def Sys.send (y : Sys) (n : Notice) : Sys := { y with todo := y.todo ++ [n] }

/-- A notice is sent where `b` holds. -/
def Sys.sendIf (y : Sys) (b : Bool) (n : Notice) : Sys := if b then y.send n else y

/-- The notices of a list are sent, first one first. -/
def Sys.sendAll (y : Sys) (l : List Notice) : Sys := { y with todo := y.todo ++ l }

/-- The oldest notice of each lane: those that may be taken next. -/
def ready (seen : List Nat) : List Notice → List Notice
  | [] => []
  | n :: l => if seen.contains n.lane then ready seen l else n :: ready (n.lane :: seen) l

/-- The notice that is taken next, and the choices left: where more than one may be taken, the choices say which
(log 6). -/
def choose (order : Nat) (todo : List Notice) : Option (Notice × Nat) :=
  match ready [] todo with
  | [] => none
  | [n] => some (n, order)
  | n :: l => some ((n :: l).getD (order % (l.length + 1)) n, order / (l.length + 1))

/-- The notices without the oldest of lane `k`. -/
def withoutLane (k : Nat) : List Notice → List Notice
  | [] => []
  | n :: l => if n.lane = k then l else n :: withoutLane k l

/-! ### Records and the channels they command -/

/-- The commanded value of a raise valve (R61): in DIPPING it is off during the pulse and on during the regain. -/
def Pan.rvCommand (r : Pan) : Option Nat :=
  match r.state with
  | .rising | .up => some r.effective
  | .dipping => match r.timer with
    | some { kind := .dipRegain, .. } => some r.effective
    | _ => none
  | .down | .falling | .dropping | .tripped => none

/-- The commanded value of a quick vent (R61). -/
def Pan.qvCommand (r : Pan) : Bool :=
  match r.state with
  | .dropping | .tripped => true
  | .down | .rising | .up | .dipping | .falling => false

/-- The record of pan `p` becomes `r`, and its two channels follow (R61, R168). -/
def State.putPan (s : State) (p : PanId) (r : Pan) : State :=
  { s with
    pans := put s.pans p r
    outputs := { s.outputs with commanded := { s.outputs.commanded with
      rv := put s.outputs.commanded.rv p r.rvCommand
      qv := put s.outputs.commanded.qv p r.qvCommand } } }

/-- BC is commanded on in CLOSING and LIVE (R86). -/
def PathState.bcCommand : PathState → Bool
  | .closing | .live => true
  | .isolated | .selecting | .awaitLine | .opening _ | .coasting _ | .changing _ | .faulted _ => false

/-- BT is commanded on in OPENING and FAULTED, off in CLOSING and LIVE, and follows the breaker feedback in every
other state (R86). -/
def PathState.btCommand (closed : Bool) : PathState → Bool
  | .closing | .live => false
  | .opening _ | .faulted _ => true
  | .isolated | .selecting | .awaitLine | .coasting _ | .changing _ => closed

/-- SD drives towards the target's position in SELECTING, and stops in every other state (R86). -/
def PathState.sdCommand (position : Option Position) : PathState → SelectorDrive
  | .selecting => match position with
    | some n => .to n
    | none => .stop
  | .isolated | .awaitLine | .closing | .live | .opening _ | .coasting _ | .changing _ | .faulted _ => .stop

/-- CHG writes its three channels as its record and the breaker feedback have them (R86). -/
def State.commandPath (s : State) : State :=
  { s with outputs := { s.outputs with commanded := { s.outputs.commanded with
      bc := s.path.state.bcCommand
      bt := s.path.state.btCommand s.lines.breakerClosed
      sd := s.path.state.sdCommand (s.targetPosition s.path.target) } } }

/-- ICE writes its twelve channels: on for each zone in ON (R115). -/
def State.commandHeaters (s : State) : State :=
  { s with outputs := { s.outputs with commanded := { s.outputs.commanded with
      hz := s.ice.zones.map fun z => decide (z.state = .on) } } }

/-- PRF writes the in-force profile of a pan, and PAN recomputes its force base (R10, R63). -/
def State.writeInForce (s : State) (p : PanId) (f : Profile) : State :=
  s.putPan p { s.pan p with inForce := f, base := s.forceBase f }

end Sys2Proof.Machine
end

