-- ==== Sys2Proof/Machine/Operands.lean ====
section
/-! DEFINITION. The operands of requests and of the image: the named values by their positions in their lists (R184,
R201), and the range checks of the fields. -/

namespace Sys2Proof.Machine

/-- `n` lies from `lo` to `hi`. -/
def within (lo hi n : Nat) : Bool := decide (lo ≤ n) && decide (n ≤ hi)

/-- An optional number that is absent or lies from `lo` to `hi`. -/
def withinIfAny (lo hi : Nat) : Option Nat → Bool
  | none => true
  | some n => within lo hi n

/-! ### Named values, in the order of their lists -/

/-- AC or DC (R1). -/
def SupplyKind.all : List SupplyKind := [.ac, .dc]

/-- A, B or ANY (R1). -/
def StripAdmitted.all : List StripAdmitted := [.a, .b, .any]

/-- A or B (R58). -/
def StripClass.all : List StripClass := [.a, .b]

/-- OPEN_BREAKER or LOWER_PANS (R1). -/
def NeutralHandling.all : List NeutralHandling := [.openBreaker, .lowerPans]

/-- SLOW or NORMAL (R8). -/
def RaiseRate.all : List RaiseRate := [.slow, .normal]

/-- AUTO, OFF or FORCED (R8). -/
def HeaterPolicy.all : List HeaterPolicy := [.auto, .off, .forced]

/-- 4-of-5 or 8-of-10 (R42). -/
def Validation.all : List Validation := [.fourOfFive, .eightOfTen]

/-- OFF, AUTO or FORCED (R111). -/
def ZoneMode.all : List ZoneMode := [.off, .auto, .forced]

/-- CLEAR, LIGHT, HEAVY or SEVERE (R118). -/
def IceLevel.all : List IceLevel := [.clear, .light, .heavy, .severe]

/-- HEAT, DIP or SCRAPE (R120). -/
def ProgramKind.all : List ProgramKind := [.heat, .dip, .scrape]

/-- RUN, CLAMP, SAFE or DRIVE (R169). -/
def OutputMode.all : List OutputMode := [.run, .clamp, .safe, .drive]

/-- The seventeen kinds (R155). -/
def FaultKind.all : List FaultKind :=
  [.raiseTimeout, .lowerTimeout, .stripBreach, .airLoss, .selectorTimeout, .breakerNoClose, .breakerStuckClosed,
    .lineLostUnannounced, .systemMismatch, .noPanForSystem, .awaitExpired, .roofBackfeed, .heaterFeedback,
    .announceOverflow, .configImageInvalid, .linkBreak, .driveExitExpired]

/-- No as 0 and yes as 1 (log 9). -/
def yesNo : List Bool := [false, true]

/-- A pan by its number (R184); that a record of the image names pans, zones, groups, systems and selector positions so
too is log 62. -/
def panOf (n : Nat) : Option PanId := [none, some 0, some 1, some 2, some 3].getD n none

/-- A system S1 to S8 by its number. -/
def systemOf (n : Nat) : Option SysId := if n = 0 then none else allSystems[n - 1]?

/-- A zone by its number. -/
def zoneOf (n : Nat) : Option ZoneId := if n = 0 then none else allZones[n - 1]?

/-- A selector position by its number. -/
def positionOf (n : Nat) : Option Position := [none, some 0, some 1, some 2].getD n none

/-- A system S0 to S8 by its number; `none` for a number above 8. -/
def systemOrNone (n : Nat) : Option (Option SysId) := if n = 0 then some none else (systemOf n).map some

/-- The pans of a mask: bit 0 is P1 (R184). -/
def maskPans (m : Nat) : List PanId := allPans.filter fun p => m.testBit p.val

/-- A fault subject by its byte (R184). -/
def subjectOf (n : Nat) : Option Subject :=
  if n = 0 then some .none
  else if n = 0x20 then some .path
  else if n ≤ 4 then (panOf n).map .pan
  else if 0x10 < n then (zoneOf (n - 0x10)).map .zone
  else none

/-! ### Descriptors -/

/-- Every field lies in its range (R1, R3 check 2). -/
def descriptorInRange (d : RawDescriptor) : Bool :=
  decide (d.kind < 2) && within 5 300 d.nominal && withinIfAny 100 700 d.frequency && within 50 100 d.bandLow
    && within 100 130 d.bandHigh && withinIfAny 1 50 d.tolerance && decide (d.strip < 3) && within 40 140 d.force
    && within 1 2 d.maxRaised && within 1 3 d.selector && decide (d.breaker < 2) && decide (d.budget ≤ 400)
    && within 5 63 d.confirm && decide (d.deviation ≤ 40) && decide (d.neutral < 2)

/-- The frequency fields match the kind (R3 check 3). -/
def descriptorMatchesKind (d : RawDescriptor) : Bool :=
  if d.kind = 0 then d.frequency.isSome && d.tolerance.isSome else d.frequency.isNone && d.tolerance.isNone

/-- The descriptor that fields in their ranges spell. -/
def buildDescriptor (d : RawDescriptor) : Descriptor :=
  { kind := SupplyKind.all.getD d.kind .ac, nominal := d.nominal, frequency := d.frequency, bandLow := d.bandLow,
    bandHigh := d.bandHigh, tolerance := d.tolerance, strip := StripAdmitted.all.getD d.strip .any, force := d.force,
    maxRaised := d.maxRaised, selector := (positionOf d.selector).getD 0,
    breaker := SupplyKind.all.getD d.breaker .ac, budget := d.budget, confirm := d.confirm, deviation := d.deviation,
    neutral := NeutralHandling.all.getD d.neutral .openBreaker }

/-- The checks 2 and 3 of R3: the descriptor, or the reason of the first check that fails. -/
def checkDescriptor (d : RawDescriptor) : Except Reason Descriptor :=
  if !descriptorInRange d then .error .outOfRange
  else if !descriptorMatchesKind d then .error .fieldMismatch
  else .ok (buildDescriptor d)

/-! ### Profiles -/

/-- The profile that the numbers of a profile entry spell, or none where one is out of its range (R9 check 3). Where
explicit is no, the force target and the raise rate are disregarded. -/
def profileOf (system explicit force rate policy : Nat) : Option Profile :=
  match systemOrNone system, yesNo[explicit]?, HeaterPolicy.all[policy]? with
  | some s, some false, some h => some { system := s, explicit := none, policy := h }
  | some s, some true, some h =>
    match RaiseRate.all[rate]? with
    | some r => if within 40 140 force then some { system := s, explicit := some { force := force, rate := r }, policy := h }
                else none
    | none => none
  | _, _, _ => none

/-! ### Channels -/

/-- A setpoint that suits a raise valve (R172). -/
def setpointOf (v : Nat) : Option (Option Nat) :=
  if v = 0 then some none else if within 40 160 v then some (some v) else none

/-- A drive that suits the selector (R172). -/
def driveOf (v : Nat) : Option SelectorDrive :=
  [some .stop, some (.to 0), some (.to 1), some (.to 2)].getD v none

/-- The channels with the value `v` on the channel at place `n` of the list of R167, where there is such a channel and
the value suits it (R172 check 1). -/
def Channels.write (c : Channels) (n v : Nat) : Option Channels :=
  if h : n < 4 then (setpointOf v).map fun x => { c with rv := put c.rv ⟨n, h⟩ x }
  else if h : n - 4 < 4 then yesNo[v]?.map fun x => { c with qv := put c.qv ⟨n - 4, h⟩ x }
  else if h : n - 8 < 12 then yesNo[v]?.map fun x => { c with hz := put c.hz ⟨n - 8, h⟩ x }
  else if n = 20 then yesNo[v]?.map fun x => { c with bc := x }
  else if n = 21 then yesNo[v]?.map fun x => { c with bt := x }
  else if n = 22 then (driveOf v).map fun x => { c with sd := x }
  else none

/-- Every item of the list written, where each is a channel with a value that suits it. -/
def Channels.writeAll (c : Channels) : List PreloadItem → Option Channels
  | [] => some c
  | i :: l => match c.write i.channel i.value with
    | some d => d.writeAll l
    | none => none

/-- No channel is named twice (R172 check 2). -/
def distinctChannels : List PreloadItem → Bool
  | [] => true
  | i :: l => !(l.any fun j => decide (j.channel = i.channel)) && distinctChannels l

/-- The list sets BC on (R172 check 3). -/
def setsBreaker (l : List PreloadItem) : Bool := l.any fun i => decide (i.channel = 20) && decide (i.value = 1)

end Sys2Proof.Machine
end

