-- ==== Sys2Proof/Machine/Profiles.lean ====
section
/-! DEFINITION. PRF: descriptors, profiles, APPLY and commits (chapter 1). -/

namespace Sys2Proof.Machine

/-- The conditions of R4 for an index. -/
def State.protection (s : State) (i : SysId) : Protection :=
  { inForce := allPans.any fun p => decide ((s.pan p).inForce.system = some i)
    active := allPans.any fun p => decide ((s.store.active.get p).system = some i)
    target := decide (s.path.target = some i) || decide (s.path.state.next = some i)
    candidate := decide (s.sense.latest.candidate = .system i) && decide (s.path.state ≠ .isolated) }

/-- Some condition of R4 holds. -/
def Protection.any (p : Protection) : Bool := p.inForce || p.active || p.target || p.candidate

/-- The config status of a pan and its mark, which is set exactly in IN_PROGRESS (R10). -/
def Store.setStatus (t : Store) (p : PanId) (c : ConfigStatus) : Store :=
  { t with status := put t.status p c, marks := put t.marks p (decide (c = .inProgress)) }

/-- A commit of a pan whose mark is set: the active entry comes into force (R18). -/
def State.commit (s : State) (p : PanId) : State :=
  { s with store := s.store.setStatus p .success }.writeInForce p (s.store.active.get p)

/-- The APPLY_RESULT of a commit (R18). -/
def State.commitReport (s : State) (p : PanId) : Report := .applyResult p (s.pan p).inForce .success

/-- PRF takes a pass point of a pan: where its mark is set it commits, and tells ICE (R18, R116). -/
def Sys.commit (y : Sys) (p : PanId) : Sys :=
  if y.st.store.marks.get p then
    let z := y.edit fun s => s.commit p
    (z.post (z.st.commitReport p)).send .profileWritten
  else y

/-- PRF takes PAN's notice of a pass point; the pan must still be at it (R17, R19). -/
def Sys.takePassPoint (y : Sys) (p : PanId) : Sys :=
  if (y.st.pan p).atPassPoint then y.commit p else y

/-- CHG has PRF commit every pending pan at the all-down point (R105). That the pans are committed, and their APPLY_RESULT
reports posted, in pan order is log 51. -/
def Sys.commitAll (y : Sys) : Sys := allPans.foldl Sys.commit y

/-! ### APPLY -/

/-- What APPLY has decided so far (R16): its reply's three sets, and the pans committed at once, in pan order. -/
structure Applied where
  accepted : List (PanId × ConfigStatus)
  ignored : List PanId
  rejected : List (PanId × ConfigStatus)
  committed : List PanId
  deriving DecidableEq, Repr

/-- Nothing decided yet. -/
def Applied.empty : Applied := { accepted := [], ignored := [], rejected := [], committed := [] }

/-- Why a staged profile is rejected, by the tests 1, 3 and 4 of R13. -/
def State.applyRefusal (s : State) (p : PanId) (f : Profile) : Option ConfigStatus :=
  match f.system with
  | none => none
  | some i => match s.store.descriptors.get i with
    | none => some .rejectedUnknownSystem
    | some d => if d.strip.admits (s.pan p).strip then none else some .rejectedStrip

/-- The pan is rejected with its reason (R13, R14). -/
def applyReject (p : PanId) (c : ConfigStatus) (z : Sys × Applied) : Sys × Applied :=
  (z.1.edit fun s => { s with store := s.store.setStatus p c }, { z.2 with rejected := z.2.rejected ++ [(p, c)] })

/-- NOW mode (R14). -/
def applyNow (p : PanId) (f : Profile) (z : Sys × Applied) : Sys × Applied :=
  let r := z.1.st.pan p
  if z.1.st.store.passOnly then applyReject p .rejectedPassOnly z
  else if !r.state.lowered && decide (f.system ≠ r.inForce.system) then applyReject p .rejectedRaised z
  else
    ((z.1.edit fun s =>
        { s with store := { s.store.setStatus p .success with active := put s.store.active p f } }.writeInForce p f).send
      .profileWritten,
      { z.2 with accepted := z.2.accepted ++ [(p, .success)] })

/-- ON_PASS mode (R15): the entry is accepted, and committed at once where the pan is at its pass point. -/
def applyOnPass (p : PanId) (f : Profile) (z : Sys × Applied) : Sys × Applied :=
  let y := z.1.edit fun s =>
    { s with store := { s.store.setStatus p .inProgress with active := put s.store.active p f } }
  if (y.st.pan p).atPassPoint then
    ((y.edit fun s => s.commit p).send .profileWritten,
      { z.2 with accepted := z.2.accepted ++ [(p, .success)], committed := z.2.committed ++ [p] })
  else (y, { z.2 with accepted := z.2.accepted ++ [(p, .inProgress)] })

/-- The decision of one pan (R13 to R15). -/
def applyPan (set : Vector Profile 4) (onPass : Bool) (z : Sys × Applied) (p : PanId) : Sys × Applied :=
  let f := set.get p
  if !(z.1.st.pan p).fitted then applyReject p .rejectedUnfitted z
  else if z.1.st.store.status.get p = .inProgress then (z.1, { z.2 with ignored := z.2.ignored ++ [p] })
  else match z.1.st.applyRefusal p f with
    | some c => applyReject p c z
    | none => if onPass then applyOnPass p f z else applyNow p f z

/-- A staged set by its number (R9, R12). -/
def Store.staged (t : Store) (n : Nat) : Option (Vector Profile 4) :=
  if n = 0 then some t.staged0 else if n = 1 then some t.staged1 else none

/-- APPLY (R12, R16): NOW is mode 0 and ON_PASS mode 1 (log 9); another mode is refused OUT_OF_RANGE, after the checks
that R12 lists (log 10). -/
def Sys.apply (y : Sys) (c : Call) (f : ApplyFields) : Sys :=
  if y.st.held then y.answer c .mode
  else match y.st.store.staged f.set with
    | none => y.refuse c .badSet
    | some set =>
      if f.mask = 0 then y.refuse c .emptyMask
      else if 1 < f.mode then y.refuse c .outOfRange
      else
        let z := (maskPans f.mask).foldl (applyPan set (decide (f.mode = 1))) (y, Applied.empty)
        (z.1.answer c (.ok (.applied z.2.accepted z.2.ignored z.2.rejected))).postAll
          (z.2.committed.map z.1.st.commitReport)

/-! ### The other requests of PRF -/

/-- STAGE_PROFILE (R9). -/
def Sys.stageProfile (y : Sys) (c : Call) (f : StageFields) : Sys :=
  if 1 < f.set then y.refuse c .badSet
  else match panOf f.pan with
    | none => y.refuse c .badPan
    | some p => match profileOf f.system f.explicit f.force f.rate f.policy with
      | none => y.refuse c .outOfRange
      | some g =>
        (y.edit fun s => { s with store :=
          if f.set = 0 then { s.store with staged0 := put s.store.staged0 p g }
          else { s.store with staged1 := put s.store.staged1 p g } }).answer c (.ok .nothing)

/-- What READ_PROFILE returns of a pan (R11). -/
def State.profileView (s : State) (p : PanId) : ProfileView :=
  { staged0 := s.store.staged0.get p, staged1 := s.store.staged1.get p, active := s.store.active.get p,
    inForce := (s.pan p).inForce, mark := s.store.marks.get p, status := s.store.status.get p }

/-- READ_PROFILE (R11). -/
def Sys.readProfile (y : Sys) (c : Call) (mask : Nat) : Sys :=
  y.answer c (.ok (.profiles ((maskPans mask).map y.st.profileView) y.st.store.passOnly))

/-- READ_SYSTEM (R6). -/
def Sys.readSystem (y : Sys) (c : Call) (index : Nat) : Sys :=
  match systemOf index with
  | none => y.refuse c .badIndex
  | some i => y.answer c (.ok (.system (y.st.store.descriptors.get i) (y.st.protection i)))

/-- The table with the entry at an index replaced (R3). -/
def State.describe (s : State) (i : SysId) (d : Option Descriptor) : State :=
  { s with store := { s.store with descriptors := put s.store.descriptors i d } }

end Sys2Proof.Machine
end

