-- ==== Sys2Proof/Machine/Recognition.lean ====
section
/-! DEFINITION. LSR: windows, candidates and the recognition record (chapter 2), with DESCRIBE_SYSTEM, whose notice
LSR takes at once. Samples are in volts, held magnitudes in hundredths of a kV, held frequencies in hundredths of a
Hz (log 11). -/

namespace Sys2Proof.Machine

/-! ### Measuring (R23 to R25) -/

/-- A sample held at the nearer limit of the input range (R23). -/
def holdSample (v : Int) : Int := max (-60000) (min 60000 v)

/-- The sample lies beyond the input range (R23). -/
def clips (v : Int) : Bool := decide (v < -60000) || decide (60000 < v)

/-- The largest whole number whose square is at most `n`, for `n` below 2 to the 32. -/
def rootOf (n : Nat) : Nat :=
  [15, 14, 13, 12, 11, 10, 9, 8, 7, 6, 5, 4, 3, 2, 1, 0].foldl
    (fun r b => if (r + 2 ^ b) * (r + 2 ^ b) ≤ n then r + 2 ^ b else r) 0

/-- The quotient `num / den` held as a whole number of steps: exact where it is one, else the step below or above as
`Config.quotientUp` has it (log 11). -/
def holdQuotient (num den : Nat) : Nat :=
  if num % den = 0 then num / den else if Config.quotientUp num den then num / den + 1 else num / den

/-- The root of `num / den` held as a whole number of steps, in the same way (log 11). -/
def holdRoot (num den : Nat) : Nat :=
  let r := rootOf (num / den)
  if r * r * den = num then r else if Config.rootUp num den then r + 1 else r

/-- A value in steps of `k` as it is reported, to the nearest; midway between two as `Config.midwayUp` has it (R24, R25,
log 11). -/
def roundBy (k n : Nat) : Nat :=
  if 2 * (n % k) < k then n / k else if k < 2 * (n % k) then n / k + 1
  else if Config.midwayUp n then n / k + 1 else n / k

/-- The crossings of samples numbered from `i`, and the side last left, from the side left before (R25). -/
def crossingsFrom (i : Nat) (side : Option Bool) : List Int → List Nat × Option Bool
  | [] => ([], side)
  | v :: l =>
    if 200 ≤ v then
      let z := crossingsFrom (i + 1) (some true) l
      (if side = some false then i :: z.1 else z.1, z.2)
    else if v ≤ -200 then
      let z := crossingsFrom (i + 1) (some false) l
      (if side = some true then i :: z.1 else z.1, z.2)
    else crossingsFrom (i + 1) side l

/-- The crossing times of the three windows of the history, in samples from the first one's start (R25). -/
def crossingTimes (h : List Nat × List Nat × List Nat) : List Nat :=
  h.1 ++ h.2.1.map (· + 80) ++ h.2.2.map (· + 160)

/-- The frequency estimate from the crossing times: crossings less one, over twice the time between the first and the
last, in hundredths of a Hz (R25). -/
def frequencyOf (times : List Nat) : Option Nat :=
  match times.head?, times.getLast? with
  | some a, some b => if a < b then some (holdQuotient ((times.length - 1) * 100000) (b - a)) else none
  | _, _ => none

/-- The magnitude of a window, in hundredths of a kV: the mean of the absolute samples for DC, the root-mean-square
for AC (R24). -/
def magnitudeOf (kind : SupplyKind) (samples : List Int) : Nat :=
  match kind with
  | .dc => holdQuotient (samples.map Int.natAbs).sum 800
  | .ac => holdRoot (samples.map fun v => v.natAbs * v.natAbs).sum 8000

/-! ### The candidate (R26) and the deviation (R27) -/

/-- A descriptor's band contains a magnitude (R26). -/
def Descriptor.contains (d : Descriptor) (magnitude : Nat) : Bool :=
  decide (d.bandLow * d.nominal ≤ magnitude * 10) && decide (magnitude * 10 ≤ d.bandHigh * d.nominal)

/-- A descriptor's frequency matches: a DC descriptor has none, an AC one needs an estimate within its tolerance
(R26). -/
def Descriptor.tunes (d : Descriptor) (estimate : Option Nat) : Bool :=
  match d.kind, d.frequency, d.tolerance, estimate with
  | .dc, _, _, _ => true
  | .ac, some f, some t, some e => decide (10 * f ≤ e + 10 * t) && decide (e ≤ 10 * f + 10 * t)
  | .ac, _, _, _ => false

/-- A descriptor matches a window (R26 test 3). -/
def Descriptor.accepts (d : Descriptor) (kind : SupplyKind) (magnitude : Nat) (estimate : Option Nat) : Bool :=
  decide (d.kind = kind) && d.contains magnitude && d.tunes estimate

/-- The first descriptor in index order that matches a window. -/
def State.matching (s : State) (kind : SupplyKind) (magnitude : Nat) (estimate : Option Nat) : Option SysId :=
  allSystems.find? fun i => match s.store.descriptors.get i with
    | some d => d.accepts kind magnitude estimate
    | none => false

/-- The candidate of a window (R26). -/
def State.candidateOf (s : State) (clipped : Bool) (kind : SupplyKind) (magnitude : Nat) (estimate : Option Nat) :
    Candidate :=
  if clipped then .noMatch
  else if magnitude * 10 < s.deadThreshold then .dead
  else match s.matching kind magnitude estimate with
    | some i => .system i
    | none => .noMatch

/-- The half period of a frequency estimate, in samples, a half rounding up (R27). -/
def halfPeriod (estimate : Nat) : Nat := (200000 + estimate) / (2 * estimate)

/-- A sum of `n` squares whose root-mean-square lies outside a descriptor's band; the root is compared exactly, and is
not first held to 0.01 kV (R27, log 11). -/
def Descriptor.excludes (d : Descriptor) (n sum : Nat) : Bool :=
  let lo := d.bandLow * d.nominal
  let hi := d.bandHigh * d.nominal
  decide (sum < n * (lo * lo)) || decide (n * (hi * hi) < sum)

/-- How many samples deviate, each judged over the `span` samples that end at it; `recent` holds the squares before
the samples, newest first (R27, log 12). -/
def deviationFrom (d : Descriptor) (span : Nat) (recent : List Nat) : List Int → Nat
  | [] => 0
  | v :: l =>
    let recent := (v.natAbs * v.natAbs :: recent).take span
    (if d.excludes recent.length recent.sum then 1 else 0) + deviationFrom d span recent l

/-- The deviation count of a window for a descriptor (R27). -/
def deviationOf (d : Descriptor) (kind : SupplyKind) (estimate : Option Nat) (previous samples : List Int) : Nat :=
  match kind, estimate with
  | .ac, some e =>
    deviationFrom d (halfPeriod e) (previous.map fun v => v.natAbs * v.natAbs).reverse samples
  | _, _ => deviationFrom d 1 [] samples

/-- The measurements of a completed window, and the history and side it leaves (R23 to R27). -/
def State.measure (s : State) (raw : List Int) : Sense :=
  let samples := raw.map holdSample
  let z := crossingsFrom 0 s.sense.side samples
  let history := (s.sense.crossings.2.1, s.sense.crossings.2.2, z.1)
  let times := crossingTimes history
  let kind : SupplyKind := if times.isEmpty then .dc else .ac
  let estimate := frequencyOf times
  let magnitude := magnitudeOf kind samples
  let clipped := raw.any clips
  let candidate := s.candidateOf clipped kind magnitude estimate
  { s.sense with
    crossings := history
    side := z.2
    previous := samples
    latest :=
      { number := if s.sense.latest.number = 4294967295 then 1 else s.sense.latest.number + 1
        magnitude := some magnitude
        kind := some kind
        frequency := estimate
        clipped := some clipped
        candidate := candidate
        deviation := match candidate with
          | .system i => match s.store.descriptors.get i with
            | some d => some (deviationOf d kind estimate s.sense.previous samples)
            | none => none
          | .dead | .noMatch => none } }

/-! ### The record (R29 to R31) -/

/-- The window of a measurement is good for its candidate (R27). -/
def State.goodWindow (s : State) (m : Measurement) : Bool :=
  match m.candidate, m.deviation with
  | .system i, some n => match s.store.descriptors.get i with
    | some d => decide (n ≤ d.deviation)
    | none => false
  | _, _ => false

/-- A run that a window starts (R29). -/
def LineRecord.seed (c : Candidate) (good : Bool) : LineRecord :=
  match c with
  | .dead => .dead
  | .noMatch => .acquiring none 0
  | .system i => .acquiring (some i) (if good then 1 else 0)

/-- A run stepped by a window (R29). -/
def LineRecord.stepRun (run : Option SysId) (count : Nat) (c : Candidate) (good : Bool) : LineRecord :=
  match c with
  | .system i => if run = some i then .acquiring run (if good then count + 1 else 0) else LineRecord.seed c good
  | .dead | .noMatch => LineRecord.seed c good

/-- A run that has reached its system's confirm windows recognizes it (R29). -/
def State.confirm (s : State) (r : LineRecord) : LineRecord :=
  match r with
  | .acquiring (some i) n => match s.store.descriptors.get i with
    | some d => if d.confirm ≤ n then .recognized i else r
    | none => r
  | _ => r

/-- The record stepped by a window of candidate `c`, with the system that is lost (R29 to R31). In SUSPECT a good window
sets the bad run to 0, as R31 has it, though R28 gives the bad run as 1 or 2 (log 48). -/
def State.stepRecord (s : State) (r : LineRecord) (c : Candidate) (good : Bool) : LineRecord × Option SysId :=
  match r with
  | .dead => (s.confirm (LineRecord.seed c good), none)
  | .acquiring run n => (s.confirm (LineRecord.stepRun run n c good), none)
  | .recognized i => (if c = .system i ∧ good then .recognized i else .suspect i 0 1, none)
  | .suspect i g b =>
    if c = .system i ∧ good then (if 2 ≤ g + 1 then .recognized i else .suspect i (g + 1) 0, none)
    else if 3 ≤ b + 1 then (s.confirm (LineRecord.seed c good), some i)
    else (.suspect i 0 (b + 1), none)

/-- The events of a step of the record, for CHG (R33). -/
def lineEvents (old new : LineRecord) (lost : Option SysId) : List Notice :=
  (match lost with
    | some i => [Notice.lost i]
    | none => [])
  ++ match new, old with
    | .recognized i, .acquiring _ _ => [.recognized i]
    | .recognized i, .suspect _ _ _ => [.recognized i]
    | .dead, .acquiring _ _ => [.lineDead]
    | .dead, .suspect _ _ _ => [.lineDead]
    | _, _ => []

/-- The record takes a value: the report where its state or system changes, then the events (R34). -/
def Sys.setRecord (y : Sys) (new : LineRecord) (cause : LineCause) (lost : Option SysId) (events : List Notice) :
    Sys :=
  let old := y.st.sense.record
  let z := y.edit fun s => { s with sense := { s.sense with record := new } }
  let z := if old.shown = new.shown then z
    else z.post (.lineState { state := new.shown, reported := new.reported, previous := old.shown, cause := cause,
                              lost := lost, window := y.st.sense.latest.number })
  z.sendAll events

/-- A window's completion (R23). -/
def Sys.completeWindow (y : Sys) (samples : List Int) : Sys :=
  let m := y.st.measure samples
  let old := y.st.sense.record
  let z := y.st.stepRecord old m.latest.candidate (y.st.goodWindow m.latest)
  (y.edit fun s => { s with sense := m }).setRecord z.1 (if z.2.isSome then .lost else .window) z.2
    (lineEvents old z.1 z.2)

/-- LSR takes the notice of a changed index (R36). -/
def Sys.descriptorChanged (y : Sys) (i : SysId) : Sys :=
  match y.st.sense.record with
  | .dead => if y.st.sense.latest.candidate = .system i then y.setRecord (.acquiring none 0) .descriptor none [] else y
  | .acquiring run _ =>
    if y.st.sense.latest.candidate = .system i ∨ run = some i then
      y.setRecord (.acquiring none 0) .descriptor none [] else y
  | .recognized j | .suspect j _ _ =>
    if y.st.sense.latest.candidate = .system i ∨ j = i then
      y.setRecord (.acquiring none 0) .descriptor (some j) [.lost j] else y

/-! ### Requests -/

/-- DESCRIBE_SYSTEM (R3): the entry is written, then LSR is told (R5). -/
def Sys.describeSystem (y : Sys) (c : Call) (f : DescribeFields) : Sys :=
  match systemOf f.index with
  | none => y.refuse c .badIndex
  | some i =>
    let content : Except Reason (Option Descriptor) := match f.content with
      | none => .ok none
      | some d => (checkDescriptor d).map some
    match content with
    | .error r => y.refuse c r
    | .ok d =>
      if (y.st.protection i).any then y.refuse c .inUse
      else ((y.edit fun s => s.describe i d).answer c (.ok .nothing)).descriptorChanged i

/-- The measurements as they are reported (R24, R25). -/
def Measurement.reported (m : Measurement) : Measurement :=
  { m with magnitude := m.magnitude.map (roundBy 10), frequency := m.frequency.map (roundBy 10) }

/-- The reply of READ_LINE (R35). -/
def State.lineView (s : State) : LineView :=
  { state := s.sense.record.shown
    reported := s.sense.record.reported
    runSystem := match s.sense.record with
      | .acquiring run _ => run
      | _ => none
    runCount := match s.sense.record with
      | .acquiring _ n => some n
      | _ => none
    good := match s.sense.record with
      | .suspect _ g _ => some g
      | _ => none
    bad := match s.sense.record with
      | .suspect _ _ b => some b
      | _ => none
    threshold := s.deadThreshold
    latest := s.sense.latest.reported }

/-- READ_LINE (R35). -/
def Sys.readLine (y : Sys) (c : Call) : Sys := y.answer c (.ok (.line y.st.lineView))

end Sys2Proof.Machine
end

