-- ==== Sys2Proof/Machine/Markers.lean ====
section
/-! DEFINITION. MKR: the odometer, the coil telegrams and the Announcement Queue (chapter 3). -/

namespace Sys2Proof.Machine

/-! ### The odometer and the speed (R39, R40) -/

/-- The largest odometer position (R39). -/
abbrev odometerEnd : Nat := 4294967295

/-- MKR counts pulses and takes its speed records: outside a cold start's load and the reset (R39, R57). -/
def State.odometerRuns (s : State) : Bool :=
  match s.loader.state with
  | .doneValid | .doneDefaults => true
  | .loading => decide (s.loader.kind = .warm)
  | .idle => false

/-- The odometer after one pulse (R39). -/
def Marker.pulsed (m : Marker) : Marker :=
  let sum := m.remainder + m.perPulse
  { m with odometer := min odometerEnd (m.odometer + sum / 100), remainder := sum % 100 }

/-- A reading: the odometer with its remainder, in hundredths of a metre (R40). -/
def Marker.reading (m : Marker) : Nat := m.odometer * 100 + m.remainder

/-- The speed recomputed from a new record; before the first record every earlier one equals it (R40). DESIGN CHOICE:
where the reading lies below the one ten records earlier, as it can at the odometer's end, where the remainder alone
goes on (R39), the speed is 0.0 (log 69). -/
def Marker.recompute (m : Marker) : Marker :=
  let now := m.reading
  let past := match m.readings with
    | [] => List.replicate 10 now
    | l => l
  { m with readings := past.drop 1 ++ [now], speed := min 2000 ((now - past.headD now) / 10) }

/-- The last declared pair is forgotten 100 m on from its declaration (R43). -/
def Marker.forget (m : Marker) : Marker :=
  match m.declared with
  | some d => if d.position + 100 ≤ m.odometer then { m with declared := none } else m
  | none => m

/-! ### Due entries (R49, R50) -/

/-- The lead time of a kind, in tenths of a second (R49). -/
def LeadTimes.of (l : LeadTimes) : Announced → Nat
  | .systemAhead _ => l.systemAhead
  | .neutralAhead _ => l.neutralAhead
  | .lowerZone => l.lowerZone
  | .lowerZoneEnd => l.lowerZoneEnd
  | .icePermit => l.icePermit
  | .iceForbid => l.iceForbid

/-- The lead of a kind in metres: 20 m plus speed times lead time, rounded up (R49). -/
def Marker.lead (m : Marker) (a : Announced) : Nat := 20 + (m.speed * m.leads.of a + 99) / 100

/-- An announcement is due (R49). -/
def Marker.isDue (m : Marker) (a : Announcement) : Bool := decide (a.trigger ≤ m.odometer + m.lead a.what)

/-- The queue tested: the queue without the entries that are due, and those, in queue order (R50). -/
def Marker.test (m : Marker) : Marker × List Announcement :=
  ({ m with queue := m.queue.filter fun a => !m.isDue a }, m.queue.filter m.isDue)

/-- The consumer of an announcement (R44, R50). -/
def Announced.consumer : Announced → Consumer
  | .systemAhead _ | .neutralAhead _ | .lowerZone | .lowerZoneEnd => .chg
  | .icePermit | .iceForbid => .ice

/-- The notice that hands an entry to its consumer (R50). -/
def Announcement.handOff (a : Announcement) : Notice :=
  match a.what.consumer with
  | .chg => .pathDue a
  | .ice => .iceDue a

/-- MKR posts the DUE report of an entry that has left the queue, and hands the entry on (R50). -/
def Sys.takeDue (y : Sys) (a : Announcement) : Sys :=
  (y.post (.marker (.due a a.what.consumer) y.st.marker.odometer)).send a.handOff

/-- MKR's state becomes `m`, and the entries of a list are due. -/
def Sys.setMarker (y : Sys) (m : Marker) (due : List Announcement) : Sys :=
  (y.edit fun s => { s with marker := m }).sendAll (due.map .due)

/-- A wheel pulse (R39): on an advance the queue is tested, and CHG and ICE are told. -/
def Sys.wheelPulse (y : Sys) : Sys :=
  if y.st.odometerRuns then
    let m := y.st.marker.pulsed
    let n := m.odometer - y.st.marker.odometer
    if n = 0 then y.setMarker m []
    else
      let z := m.forget.test
      ((y.setMarker z.1 z.2).send .odometerMoved).send (.metres n)
  else y

/-- The speed is recomputed, and the queue tested (R40). -/
def Sys.speedRecompute (y : Sys) : Sys :=
  if y.st.odometerRuns then
    let z := y.st.marker.recompute.test
    y.setMarker z.1 z.2
  else y

/-! ### Offers to the queue (R46 to R48) -/

/-- What an offer to the queue has done: MKR's state after it, the outcome, the entry that holds the announcement or
is handed on, the evicted and the merged entries, and the entries that are due. -/
structure Offer where
  marker : Marker
  outcome : OfferOutcome
  entry : Option Announcement
  evicted : Option Announcement
  merged : List Announcement
  due : List Announcement
  deriving DecidableEq, Repr

/-- The distance between two positions. -/
def apart (a b : Nat) : Nat := (a - b) + (b - a)

/-- An entry is a near duplicate of an offer (R47). -/
def Announcement.near (a : Announcement) (what : Announced) (trigger : Nat) : Bool :=
  decide (a.what = what) && decide (apart a.trigger trigger ≤ 50)

/-- The nearest of a list to a trigger, the earlier of two at equal distance (R47). -/
def nearest (trigger : Nat) : List Announcement → Option Announcement
  | [] => none
  | a :: l => match nearest trigger l with
    | none => some a
    | some b => if apart b.trigger trigger < apart a.trigger trigger then some b else some a

/-- An entry in its place by trigger, last among entries with an equal trigger (R46). -/
def placeByTrigger (a : Announcement) (l : List Announcement) : List Announcement :=
  insertAhead (fun b => decide (a.trigger < b.trigger)) a l

/-- The id after an id (R46). -/
def idAfter (n : Nat) : Nat := if 255 ≤ n then 1 else n + 1

/-- The first id from `n` on that no entry of the queue holds (R46). -/
def freeId (queue : List Announcement) : Nat → Nat → Nat
  | 0, n => n
  | k + 1, n => if queue.any (fun a => decide (a.id = n)) then freeId queue k (idAfter n) else n

/-- The id that a new entry takes; at most 8 ids are in use (R46). -/
def Marker.takeId (m : Marker) : Nat := freeId m.queue 8 m.nextId

/-- A refresh (R47). -/
def Marker.refresh (m : Marker) (old : Announcement) (trigger : Nat) (source : Source) : Offer :=
  let others := m.queue.filter fun a => decide (a.id ≠ old.id)
  let merged := others.filter fun a => a.near old.what trigger
  let wayside := decide (source = .wayside) || decide (old.source = .wayside)
    || merged.any fun a => decide (a.source = .wayside)
  let entry := { old with trigger := trigger, source := if wayside then .wayside else .routeData }
  let z := Marker.test { m with
    queue := placeByTrigger entry (others.filter fun a => !a.near old.what trigger) }
  { marker := z.1, outcome := .refreshed, entry := some entry, evicted := none, merged := merged, due := z.2 }

/-- A new entry in its place (R48 steps 2 and 3), with the entry evicted for it. -/
def Marker.insert (m : Marker) (what : Announced) (trigger : Nat) (source : Source) (evicted : Option Announcement) :
    Offer :=
  let entry := { id := m.takeId, what := what, trigger := trigger, source := source }
  let z := Marker.test { m with queue := placeByTrigger entry m.queue, nextId := idAfter entry.id }
  { marker := z.1, outcome := .inserted, entry := some entry, evicted := evicted, merged := [], due := z.2 }

/-- A new entry offered (R48). -/
def Marker.offerNew (m : Marker) (what : Announced) (trigger : Nat) (source : Source) : Offer :=
  let entry := { id := m.takeId, what := what, trigger := trigger, source := source }
  if m.isDue entry then
    { marker := { m with nextId := idAfter entry.id }, outcome := .dueAtOnce, entry := some entry, evicted := none,
      merged := [], due := [entry] }
  else if m.queue.length < 8 then m.insert what trigger source none
  else match m.queue.getLast? with
    | some last =>
      if trigger < last.trigger then
        Marker.insert { m with queue := m.queue.dropLast } what trigger source (some last)
      else { marker := m, outcome := .refused, entry := none, evicted := none, merged := [], due := [] }
    | none => { marker := m, outcome := .refused, entry := none, evicted := none, merged := [], due := [] }

/-- An announcement offered to the queue (R47, R48); a trigger beyond the largest position is held there (R46). -/
def Marker.offer (m : Marker) (what : Announced) (trigger : Nat) (source : Source) : Offer :=
  let trigger := min odometerEnd trigger
  match nearest trigger (m.queue.filter fun a => a.near what trigger) with
  | some old => m.refresh old trigger source
  | none => m.offerNew what trigger source

/-- ANNOUNCE_OVERFLOW is raised at an eviction and at a refusal (R48). -/
def Offer.overflows (o : Offer) : Bool := o.evicted.isSome || decide (o.outcome = .refused)

/-- The EVICTED and MERGED reports of an offer (R56). -/
def Offer.reports (o : Offer) (odometer : Nat) : List Report :=
  (match o.evicted with
    | some a => [Report.marker (.evicted a) odometer]
    | none => [])
  ++ match o.entry with
    | some e => o.merged.map fun a => .marker (.merged a e.id) odometer
    | none => []

/-- MKR takes what an offer has done: its notices follow the reports that the caller has posted. -/
def Sys.finishOffer (y : Sys) (o : Offer) : Sys :=
  (y.setMarker o.marker o.due).sendIf o.overflows (.raised .announceOverflow .none)

/-! ### Telegrams (R41 to R45) -/

/-- The number of ones in the `n` lowest bits of a number. -/
def onesIn (n v : Nat) : Nat := ((List.range n).filter fun b => v.testBit b).length

/-- A telegram's parity is good, and it came without a framing error (R41). -/
def goodTelegram (t : Telegram) : Bool :=
  !t.framingError && decide ((onesIn 6 t.code.val + onesIn 8 t.distance.val + (if t.parity then 1 else 0)) % 2 = 0)

/-- The pair of a telegram, its distance in metres (R41). -/
def pairOf (t : Telegram) : Pair := { code := t.code, distance := t.distance.val * 10 }

/-- The history with a new pair at its newest end (R42). -/
def pushPair (history : List Pair) (p : Pair) : List Pair :=
  if history.length < 10 then history ++ [p] else history.drop 1 ++ [p]

/-- How many of the last `n` pairs of a history equal a pair (R42). -/
def countPairs (history : List Pair) (n : Nat) (p : Pair) : Nat :=
  ((history.reverse.take n).filter fun q => decide (q = p)).length

/-- The count that the validation setting asks for is reached (R42). -/
def Validation.reached (v : Validation) (history : List Pair) (p : Pair) : Bool :=
  match v with
  | .fourOfFive => decide (4 ≤ countPairs history 5 p)
  | .eightOfTen => decide (8 ≤ countPairs history 10 p)

/-- A new pair, just added to the history, is declared (R42). -/
def Marker.declares (m : Marker) (p : Pair) : Bool :=
  m.validation.reached m.history p && match m.declared with
    | some d => decide (d.pair ≠ p)
    | none => true

/-- MKR acts on a declared pair (R45). -/
def Sys.declare (y : Sys) (p : Pair) : Sys :=
  let m := { y.st.marker with
    declared := some { pair := p, position := y.st.marker.odometer }
    declarations := sat16 (y.st.marker.declarations + 1) }
  match m.map.get p.code with
  | none =>
    (y.setMarker { m with unmapped := sat16 (m.unmapped + 1) } []).post (.marker (.unmapped p) m.odometer)
  | some what =>
    let trigger := min odometerEnd (m.odometer + p.distance)
    let o := m.offer what trigger .wayside
    ((y.postAll (o.reports m.odometer)).post
      (.marker (.declared p what trigger o.outcome (o.entry.map Announcement.id)) m.odometer)).finishOffer o

/-- A telegram arrives (R41). -/
def Sys.takeTelegram (y : Sys) (t : Telegram) : Sys :=
  if !y.st.loaded then y
  else if goodTelegram t then
    let m := { y.st.marker with
      telegrams := sat16 (y.st.marker.telegrams + 1), history := pushPair y.st.marker.history (pairOf t) }
    let z := y.setMarker m []
    if m.declares (pairOf t) then z.declare (pairOf t) else z
  else y.setMarker { y.st.marker with parityErrors := sat16 (y.st.marker.parityErrors + 1) } []

/-! ### Requests (R51 to R55) -/

/-- The announcement that a kind, by its place in the table of R44, and a parameter spell: the checks 1 to 3 of R51
but for the distance. -/
def announcedOf (kind : Nat) (parameter : Option Nat) : Except Reason Announced :=
  match kind, parameter with
  | 1, some n => match systemOf n with
    | some i => .ok (.systemAhead i)
    | none => .error .outOfRange
  | 2, some n => if within 1 2000 n then .ok (.neutralAhead n) else .error .outOfRange
  | 3, none => .ok .lowerZone
  | 4, none => .ok .lowerZoneEnd
  | 5, none => .ok .icePermit
  | 6, none => .ok .iceForbid
  | 0, _ => .error .badKind
  | n, _ => if n ≤ 6 then .error .fieldMismatch else .error .badKind

/-- ANNOUNCE (R51): the reply stands before the reports of the offer. -/
def Sys.announce (y : Sys) (c : Call) (f : AnnounceFields) : Sys :=
  match announcedOf f.kind f.parameter with
  | .error r => y.refuse c r
  | .ok what =>
    if 20000 < f.distance then y.refuse c .outOfRange
    else
      let m := y.st.marker
      let o := m.offer what (m.odometer + f.distance) .routeData
      let reply : Result := match o.entry with
        | some e => .ok (.announced { outcome := o.outcome, id := e.id, trigger := e.trigger, source := e.source,
                                      evicted := o.evicted.map Announcement.id,
                                      merged := o.merged.map Announcement.id })
        | none => .full
      ((y.answer c reply).postAll (o.reports m.odometer)).finishOffer o

/-- WITHDRAW (R52). -/
def Sys.withdraw (y : Sys) (c : Call) (id : Nat) : Sys :=
  match takeFirst (fun a => decide (a.id = id)) y.st.marker.queue with
  | some (a, rest) => (y.setMarker { y.st.marker with queue := rest } []).answer c (.ok (.withdrawn a))
  | none => y.answer c .unknownId

/-- READ_ANNOUNCEMENTS (R53); a due position below 0 is given as 0. -/
def Sys.readAnnouncements (y : Sys) (c : Call) : Sys :=
  let m := y.st.marker
  y.answer c (.ok (.announcements
    { entries := m.queue.map fun a => { entry := a, due := a.trigger - m.lead a.what }
      nextId := m.nextId, odometer := m.odometer, speed := m.speed }))

/-- MARKER_SETUP (R54). -/
def Sys.markerSetup (y : Sys) (c : Call) (setting : Nat) : Sys :=
  match Validation.all[setting]? with
  | some v => (y.setMarker { y.st.marker with validation := v } []).answer c (.ok (.validation v))
  | none => y.refuse c .outOfRange

/-- READ_ODOMETER (R55). -/
def Sys.readOdometer (y : Sys) (c : Call) : Sys :=
  let m := y.st.marker
  y.answer c (.ok (.odometer
    { odometer := m.odometer, remainder := m.remainder, speed := m.speed, perPulse := m.perPulse,
      validation := m.validation, declared := m.declared, pairs := m.history.length, telegrams := m.telegrams,
      parityErrors := m.parityErrors, declarations := m.declarations, unmapped := m.unmapped }))

end Sys2Proof.Machine
end

