-- ==== Sys2Proof/Machine/Pantographs.lean ====
section
/-! DEFINITION. PAN: the pan records, what moves them and the claims on them (chapter 4). -/

namespace Sys2Proof.Machine

/-! ### A change of a pan in one event -/

/-- A notice where `b` holds. -/
def noticeIf (b : Bool) (n : Notice) : List Notice := if b then [n] else []

/-- The raise timeout of a rate (R62). -/
def PanTimes.raise (t : PanTimes) : RaiseRate → Nat
  | .normal => t.raiseNormal
  | .slow => t.raiseSlow

/-- The nominal raise time of a rate (R62). -/
def PanTimes.nominal (t : PanTimes) : RaiseRate → Nat
  | .normal => t.nominalNormal
  | .slow => t.nominalSlow

/-- The timer that starts with a state, a raise at the rate of the in-force profile (R62). -/
def PanTimes.timerOf (t : PanTimes) (rate : RaiseRate) : PanState → Option PanTimer
  | .rising => some { kind := .raise, remaining := t.raise rate }
  | .falling => some { kind := .lower, remaining := t.lower }
  | .dropping => some { kind := .drop, remaining := t.drop }
  | .dipping => some { kind := .dipPulse, remaining := t.dipPulse }
  | .down | .up | .tripped => none

/-- A record that has entered another state: its timer starts, the moment of RISING is noted with the rate, and a
departure from UP sets both offsets to 0 (R62, R64, R68). -/
def Pan.entered (t : PanTimes) (old new : Pan) : Pan :=
  if new.state = old.state then new
  else { new with
    timer := t.timerOf new.inForce.rate new.state
    rising := if new.state = .rising then 0 else new.rising
    rate := if new.state = .rising then new.inForce.rate else new.rate
    quality := if old.state = .up then 0 else new.quality
    ice := if old.state = .up then 0 else new.ice }

/-- A change that PAN_STATE reports (R79). -/
def Pan.shows (old new : Pan) : Bool :=
  decide (old.state ≠ new.state) || decide (old.want ≠ new.want) || decide (old.hold ≠ new.hold)

/-- The PAN_STATE report of a change (R79). -/
def panReport (p : PanId) (old new : Pan) (cause : PanCause) (refusal : Option RetryRefusal) : Report :=
  .panState { pan := p, state := new.state, previous := old.state, cause := cause, want := new.want, hold := new.hold,
              trip := new.trip, force := new.effective, failures := new.failures, lastRaise := new.lastRaise,
              refusal := refusal }

/-- What CHG, CQM and ICE are told of every change of state (R78). -/
def panNotices (p : PanId) (old new : Pan) : List Notice :=
  if old.state = new.state then []
  else [.panMoved p old.state new.state new.inForce.system]
    ++ noticeIf (decide (old.state = .up) || decide (new.state = .up)) (.cqmPan p)
    ++ noticeIf (decide (new.state = .up)) (.panEnteredUp p)
    ++ noticeIf (decide (old.state = .up) || (decide (old.state = .dipping) && decide (new.state ≠ .up))) (.panLeft p)

/-- One event changes the record of pan `p` to `new`: PAN posts its report, and then sends the notices of the event
and those of a change of state (R78). -/
def Sys.movePan (y : Sys) (p : PanId) (new : Pan) (cause : PanCause) (refusal : Option RetryRefusal)
    (notices : List Notice) : Sys :=
  let old := y.st.pan p
  let new := Pan.entered y.st.panTimes old new
  let z := y.edit fun s => s.putPan p new
  (if Pan.shows old new then z.post (panReport p old new cause refusal) else z).sendAll
    (notices ++ panNotices p old new)

/-! ### Raising (R65 to R68) -/

/-- The first condition of R65 that fails, with its reason. -/
def State.raiseRefusal (s : State) (p : PanId) : Option ClaimReason :=
  let r := s.pan p
  if !r.fitted then some (.because .unfitted)
  else match s.descriptor r.inForce.system with
    | none => some (.because .noSystem)
    | some d =>
      if s.ifu.earthed then some (.because .earthed)
      else if s.ifu.airLow then some (.because .airLow)
      else if r.inputs.breach then some (.because .stripBreach)
      else if s.outputs.mode ≠ .run then some .mode
      else if s.ifu.backfeed then some (.because .backfeed)
      else if s.path.lowerZone then some (.because .lowerZone)
      else if s.ice.levels.get p = .severe then some (.because .iceSevere)
      else if d.maxRaised ≤ s.countOthers p (fun q => q.state.raised) then some (.because .limit)
      else if 0 < s.countOthers p (fun q => q.state.raised && decide (q.inForce.system ≠ r.inForce.system)) then
        some (.because .mixedSystem)
      else match s.path.state with
        | .isolated | .faulted _ => none
        | _ => if r.inForce.system = s.path.target then none else some (.because .wrongSystem)

/-- The result that answers a refused RAISE (R65). -/
def ClaimReason.result : ClaimReason → Result
  | .because r => .refused r
  | .mode => .mode
  | .busy => .busy

/-- A request on one pan: MODE while PAN is held, BAD_PAN for a pan outside P1 to P4 (R66, R73). -/
def Sys.onPan (y : Sys) (c : Call) (pan : Nat) (rule : PanId → Sys) : Sys :=
  if y.st.held then y.answer c .mode
  else match panOf pan with
    | none => y.refuse c .badPan
    | some p => rule p

/-- The OK reply that carries a pan's state (R66, R73, R75). -/
def Sys.answerState (y : Sys) (c : Call) (t : PanState) : Sys := y.answer c (.ok (.panState t))

/-- RAISE (R66). -/
def Sys.raise (y : Sys) (c : Call) (pan : Nat) : Sys :=
  y.onPan c pan fun p =>
    let r := y.st.pan p
    match r.state with
    | .down =>
      if r.hold ≠ .none then y.answer c .busy
      else match y.st.raiseRefusal p with
        | some w => y.answer c w.result
        | none => (y.answerState c .rising).movePan p { r with state := .rising, want := .link } .request none []
    | .rising | .up => y.answerState c r.state
    | .dipping | .falling | .dropping => y.answer c .busy
    | .tripped => y.refuse c .tripped

/-- A path raise (R67). -/
def Sys.takePathRaise (y : Sys) (p : PanId) : Sys :=
  let r := y.st.pan p
  if !r.fitted then y.send (.claimAnswer p (.refused (.because .unfitted)))
  else match r.state with
    | .down =>
      if r.hold ≠ .none then
        y.movePan p { r with want := if r.want = .link then .path else r.want } .path none [.claimAnswer p .held]
      else match y.st.raiseRefusal p with
        | some w => y.send (.claimAnswer p (.refused w))
        | none => y.movePan p { r with state := .rising, want := .path } .path none [.claimAnswer p .taken]
    | .rising | .up => y.movePan p { r with want := .path } .path none [.claimAnswer p .taken]
    | .dipping | .falling | .dropping => y.send (.claimAnswer p (.refused .busy))
    | .tripped => y.send (.claimAnswer p (.refused (.because .tripped)))

/-- A path release (R67). -/
def Sys.takePathRelease (y : Sys) (p : PanId) : Sys :=
  let r := y.st.pan p
  if r.want = .path then
    y.movePan p { r with want := .none, hold := .none } .path none
      (noticeIf (decide (r.hold ≠ .none)) (.retryWithdrawn p) ++ noticeIf r.state.lowered (.passPoint p))
  else y

/-- A raise has succeeded: the pan enters UP (R68). -/
def Sys.raiseSucceeded (y : Sys) (p : PanId) : Sys :=
  let r := y.st.pan p
  let time := max 1 (min 65535 r.rising)
  y.movePan p { r with state := .up, lastRaise := some time, failures := 0 } .sensor none
    [.raiseOk p time (y.st.panTimes.nominal r.rate)]

/-- The raise timeout expires (R69, log 18). -/
def Sys.raiseTimedOut (y : Sys) (p : PanId) : Sys :=
  let r := y.st.pan p
  let n := min 2 (r.failures + 1)
  let new := { r with state := PanState.falling, failures := n }
  if n = 1 then
    y.movePan p { new with hold := if r.want = .none then .none else .awaiting } .timeout none
      [.raised .raiseTimeout (.pan p), .raiseTimedOut p n]
  else
    y.movePan p { new with want := .none, hold := .none } .timeout none
      ([.raised .raiseTimeout (.pan p), .raiseTimedOut p n] ++ noticeIf (decide (r.want = .path)) (.wantGone p none))

/-- RAISE_TIMEOUT acts on a pan in RISING whose raise timeout runs (R69, log 5). -/
def Sys.raiseTimeout (y : Sys) (p : PanId) : Sys :=
  match (y.st.pan p).timer with
  | some { kind := .raise, .. } => y.raiseTimedOut p
  | _ => y

/-! ### The retry (R70) -/

/-- The hold ends and the want is cleared, by DECLINED with its reason or by CANCELLED (R70, R79). That the report has the
cause ICE, and not RETRY, is log 21. -/
def Sys.endRetry (y : Sys) (p : PanId) (why : Option RetryRefusal) : Sys :=
  let r := y.st.pan p
  y.movePan p { r with want := .none, hold := .none } .ice why
    (noticeIf (decide (r.want = .path)) (.wantGone p none)
      ++ noticeIf (decide (r.want = .path) && decide (r.state = .down)) (.passPoint p))

/-- A retry is refused: the want is cleared and the reason reported (R70). -/
def Sys.refuseRetry (y : Sys) (p : PanId) (w : ClaimReason) : Sys :=
  let r := y.st.pan p
  y.movePan p { r with want := .none, hold := .none } .retry (some (.claim w))
    (noticeIf (decide (r.want = .path)) (.wantGone p (some w))
      ++ noticeIf (decide (r.want = .path) && decide (r.state = .down)) (.passPoint p))

/-- A message from ICE about a retry (R70). That the report of ARMED has the cause ICE, and not RETRY, is log 21. -/
def Sys.takeRetryMessage (y : Sys) (p : PanId) (m : RetryMessage) : Sys :=
  let r := y.st.pan p
  match m, r.hold, r.state with
  | .armed, .awaiting, _ => y.movePan p { r with hold := .armed } .ice none []
  | .declined d, .awaiting, _ => y.endRetry p (some (.declined d))
  | .cancelled, .awaiting, _ | .cancelled, .armed, _ => y.endRetry p none
  | .retry, .armed, .down => match y.st.raiseRefusal p with
    | none => y.movePan p { r with state := .rising, hold := .none } .retry none []
    | some w => y.refuseRetry p w
  | .retry, .armed, .falling => y.refuseRetry p .busy
  | _, _, _ => y

/-! ### Dips (R72) -/

/-- DIP from ICE. -/
def Sys.takeDip (y : Sys) (p : PanId) : Sys :=
  let r := y.st.pan p
  if decide (r.state = .up) && !(y.st.path.isLive && !y.st.covered p) then
    y.movePan p { r with state := .dipping } .ice none []
  else y.send (.dipRefused p)

/-- The pan has regained the wire after a dip: its report has the cause SENSOR, at the end of the pulse too (log 21). -/
def Sys.dipRegained (y : Sys) (p : PanId) : Sys :=
  y.movePan p { y.st.pan p with state := .up } .sensor none [.dipDone p]

/-- A pan reads head-up and contact. -/
def PanInputs.touching (i : PanInputs) : Bool := i.up && i.contact

/-- The dip pulse ends: the raise valve is commanded on and the dip regain starts. -/
def Sys.dipPulseEnd (y : Sys) (p : PanId) : Sys :=
  let r := y.st.pan p
  match r.state, r.timer with
  | .dipping, some { kind := .dipPulse, .. } =>
    let z := y.edit fun s => s.putPan p { r with timer := some { kind := .dipRegain, remaining := s.panTimes.dipRegain } }
    if r.inputs.touching then z.dipRegained p else z
  | _, _ => y

/-- The dip regain expires. -/
def Sys.dipRegainExpiry (y : Sys) (p : PanId) : Sys :=
  let r := y.st.pan p
  match r.state, r.timer with
  | .dipping, some { kind := .dipRegain, .. } =>
    y.movePan p { r with state := .falling } .timeout none [.raised .raiseTimeout (.pan p), .dipFailed p]
  | _, _ => y

/-! ### Lowering, dropping, tripping (R73 to R77) -/

/-- A pan is lowered (R73), by the host or by the path. -/
def Sys.lowerPan (y : Sys) (p : PanId) (cause : PanCause) : Sys :=
  let r := y.st.pan p
  match r.state with
  | .rising | .up => y.movePan p { r with state := .falling } cause none []
  | .dipping => y.movePan p { r with state := .falling } cause none [.dipLeft p]
  | .down =>
    if r.hold = .none then y
    else y.movePan p { r with want := .none, hold := .none } cause none
      ([.retryWithdrawn p] ++ noticeIf (decide (r.want = .path)) (.passPoint p))
  | .falling | .dropping | .tripped => y

/-- The state of a pan after LOWER (R73). -/
def PanState.afterLower : PanState → PanState
  | .rising | .up | .dipping => .falling
  | t => t

/-- LOWER (R73). -/
def Sys.lower (y : Sys) (c : Call) (pan : Nat) : Sys :=
  y.onPan c pan fun p => (y.answerState c (y.st.pan p).state.afterLower).lowerPan p .request

/-- A pan enters DROPPING (R75). -/
def Sys.dropPan (y : Sys) (p : PanId) (trip : TripCause) (cause : PanCause) (notices : List Notice) : Sys :=
  let r := y.st.pan p
  y.movePan p { r with state := .dropping, trip := some trip, hold := .none } cause none
    (notices ++ noticeIf (decide (r.hold ≠ .none)) (.retryWithdrawn p)
      ++ noticeIf (decide (r.state = .dipping)) (.dipLeft p))

/-- The state of a pan after DROP (R75). -/
def PanState.afterDrop : PanState → PanState
  | .rising | .up | .dipping | .falling => .dropping
  | t => t

/-- DROP (R75). -/
def Sys.drop (y : Sys) (c : Call) (pan : Nat) : Sys :=
  y.onPan c pan fun p =>
    let z := y.answerState c (y.st.pan p).state.afterDrop
    match (y.st.pan p).state with
    | .rising | .up | .dipping | .falling => z.dropPan p .linkDrop .linkDrop []
    | .down => z.lowerPan p .request
    | .dropping | .tripped => z

/-- A strip breach takes a pan to DROPPING (R68, R71, R72, R74). -/
def Sys.stripBreach (y : Sys) (p : PanId) : Sys :=
  y.dropPan p .stripBreach .stripBreach [.raised .stripBreach (.pan p)]

/-- A pan enters DOWN (R77). -/
def Sys.enterDown (y : Sys) (p : PanId) (r : Pan) (cause : PanCause) (notices : List Notice) : Sys :=
  let want := if r.hold = .none then Want.none else r.want
  y.movePan p { r with state := .down, want := want, trip := none } cause none
    (notices ++ noticeIf (decide (want ≠ .path)) (.passPoint p))

/-- A pan in FALLING reaches head-down (R74, R77). -/
def Sys.landed (y : Sys) (p : PanId) : Sys :=
  y.enterDown p (y.st.pan p) .sensor [.ended .lowerTimeout (.pan p)]

/-- A pan in DROPPING reaches head-down and enters TRIPPED (R75, R76, R77). -/
def Sys.tripped (y : Sys) (p : PanId) : Sys :=
  y.movePan p { y.st.pan p with state := .tripped, want := .none } .sensor none
    [.ended .lowerTimeout (.pan p), .passPoint p]

/-- RESET_TRIP (R76). -/
def Sys.resetTrip (y : Sys) (c : Call) (pan : Nat) : Sys :=
  y.onPan c pan fun p =>
    let r := y.st.pan p
    if r.state ≠ .tripped then y.refuse c .notTripped
    else if r.inputs.breach then y.refuse c .stripBreach
    else if y.st.ifu.airLow then y.refuse c .airLow
    else if !r.inputs.down then y.refuse c .headNotDown
    else (y.answer c (.ok .nothing)).enterDown p { r with failures := 0 } .reset
      [.ended .stripBreach (.pan p), .ended .airLoss (.pan p)]

/-- LOWER_TIMEOUT acts on a pan in FALLING whose lower timeout runs: the fault is raised and the timer is not started
again (R74, log 5). -/
def Sys.lowerTimeout (y : Sys) (p : PanId) : Sys :=
  let r := y.st.pan p
  match r.timer with
  | some { kind := .lower, .. } =>
    (y.edit fun s => s.putPan p { r with timer := none }).send (.raised .lowerTimeout (.pan p))
  | _ => y

/-- DROP_TIMEOUT acts on a pan in DROPPING whose drop timeout runs (R75, log 5). -/
def Sys.dropTimeout (y : Sys) (p : PanId) : Sys :=
  let r := y.st.pan p
  match r.timer with
  | some { kind := .drop, .. } =>
    (y.edit fun s => s.putPan p { r with timer := none }).send (.raised .lowerTimeout (.pan p))
  | _ => y

/-! ### Inputs (R60, R68, R71, R72, R74, R75, R77) -/

/-- A pan in UP has lost its head: an air loss where AOS drives the raise valve at the commanded on value, a plain
fall where it does not (R71, log 31). -/
def Sys.headLost (y : Sys) (p : PanId) : Sys :=
  let r := y.st.pan p
  if y.st.outputs.driven.rv.get p = some r.effective then
    y.dropPan p .airLoss .airLoss [.raised .airLoss (.pan p)]
  else y.movePan p { r with state := .falling } .sensor none []

/-- A pan with the inputs it now reads takes the event of their change; `breached` says that the event is the
strip-breach input's, and that it reads breached (log 20). DESIGN CHOICE: in FALLING a breach drops the pan also where
head-down reads true at that event already, as two rows of R74's table then apply and no order is given (log 66). -/
def Sys.panEvent (y : Sys) (p : PanId) (i : PanInputs) (breached : Bool) : Sys :=
  let r := { y.st.pan p with inputs := i }
  let y := y.edit fun s => s.putPan p r
  match r.state with
  | .down => if i.down then y else y.movePan p { r with state := .falling } .sensor none []
  | .rising => if breached then y.stripBreach p else if i.touching then y.raiseSucceeded p else y
  | .up => if breached then y.stripBreach p else if i.up then y else y.headLost p
  | .dipping =>
    if breached then y.stripBreach p
    else match r.timer with
      | some { kind := .dipRegain, .. } => if i.touching then y.dipRegained p else y
      | _ => y
  | .falling => if breached then y.stripBreach p else if i.down then y.landed p else y
  | .dropping => if i.down then y.tripped p else y
  | .tripped => y

/-- The inputs with one of them at a level. -/
def PanInputs.with (i : PanInputs) (k : PanInput) (level : Bool) : PanInputs :=
  match k with
  | .headUp => { i with headUp := level }
  | .headDown => { i with headDown := level }
  | .contact => { i with contact := level }
  | .breach => { i with breach := level }

/-- A change of an input is taken by a fitted pan (R59, R60). -/
def Sys.takePanInput (y : Sys) (p : PanId) (k : PanInput) (level : Bool) : Sys :=
  let r := y.st.pan p
  if r.fitted then y.panEvent p (r.inputs.with k level) (decide (k = .breach) && level) else y

/-! ### Claims of CQM and ICE, output modes -/

/-- A write of the quality offset is taken only in UP (R64). -/
def Sys.takeQualityOffset (y : Sys) (p : PanId) (n : Nat) : Sys :=
  let r := y.st.pan p
  if r.state = .up then y.edit fun s => s.putPan p { r with quality := n } else y

/-- A write of the ice offset is taken only in UP (R64). -/
def Sys.takeIceOffset (y : Sys) (p : PanId) (n : Nat) : Sys :=
  let r := y.st.pan p
  if r.state = .up then y.edit fun s => s.putPan p { r with ice := n } else y

/-- SAFE entry for one pan (R78). -/
def Sys.panSafe (y : Sys) (p : PanId) : Sys :=
  let r := y.st.pan p
  y.movePan p { r with state := r.state.afterLower, want := .none, hold := .none } .safe none
    (noticeIf (decide (r.state = .dipping)) (.dipLeft p)
      ++ noticeIf (decide (r.hold ≠ .none)) (.retryWithdrawn p)
      ++ noticeIf (r.state.lowered && decide (r.want = .path)) (.passPoint p))

/-- PAN takes SAFE entry, pan by pan (R78, R174). That the pans' reports stand in pan order is log 51. -/
def Sys.takePanSafe (y : Sys) : Sys := allPans.foldl Sys.panSafe y

/-- At its release PAN takes each fitted pan's inputs afresh (R179), in pan order (log 51). DESIGN CHOICE: the four
inputs of one pan are taken together as one event, where each difference is one and no order is given (log 64). -/
def Sys.takePanResume (y : Sys) : Sys :=
  allPans.foldl (fun y p =>
    let r := y.st.pan p
    let i := y.st.lines.pans.get p
    if r.fitted then y.panEvent p i (i.breach && !r.inputs.breach) else y) y

/-- What READ_PAN returns of a pan (R80); an unfitted pan's inputs are shown as they stand (R60). -/
def State.panView (s : State) (p : PanId) : PanView :=
  let r := s.pan p
  { pan := r, force := r.effective, inputs := if r.fitted then r.inputs else s.lines.pans.get p,
    rv := s.outputs.commanded.rv.get p, qv := s.outputs.commanded.qv.get p, earthed := s.ifu.earthed,
    airLow := s.ifu.airLow }

/-- READ_PAN (R80). -/
def Sys.readPan (y : Sys) (c : Call) (mask : Nat) : Sys :=
  if mask = 0 then y.refuse c .emptyMask else y.answer c (.ok (.pans ((maskPans mask).map y.st.panView)))

/-! ### Start-up (R81, R82) -/

/-- A record as a start-up leaves it, from the head inputs as they stand; `times` is none until the load has ended
(log 30). -/
def Pan.started (r : Pan) (i : PanInputs) (times : Option PanTimes) : Pan :=
  let r := { r with want := .none, hold := .none, quality := 0, ice := 0, timer := none,
                    inputs := if r.fitted then i else r.inputs }
  if !r.fitted then { r with state := .down, trip := none }
  else if r.state = .tripped then r
  else if i.down then { r with state := .down, trip := none }
  else { r with state := .falling, trip := none,
                timer := times.map fun t => { kind := .lower, remaining := t.lower } }

/-- Every pan started from its inputs (R81, R82). DESIGN CHOICE: a change of state, want or hold that a warm restart makes
here posts no PAN_STATE report and sends no notice; R81 says so of a cold start's report, and R82 is silent (log 67). -/
def State.startPans (s : State) (times : Option PanTimes) : State :=
  allPans.foldl (fun s p => s.putPan p ((s.pan p).started (s.lines.pans.get p) times)) s

end Sys2Proof.Machine
end

