-- ==== Sys2Proof/Machine/PathControl.lean ====
section
/-! DEFINITION. CHG: the path record, its claims on pans, and what moves it (chapter 5). -/

namespace Sys2Proof.Machine

/-! ### A change of the path in one event -/

/-- What a PATH_STATE report says of its event (R109). -/
structure PathEvent where
  cause : PathCause
  id : Option Nat
  fault : Option FaultKind
  required : Bool
  deriving DecidableEq, Repr

/-- An event with a cause alone. -/
def PathEvent.of (c : PathCause) : PathEvent := { cause := c, id := none, fault := none, required := false }

/-- An event that raises a fault. -/
def PathEvent.faulty (c : PathCause) (k : FaultKind) : PathEvent :=
  { cause := c, id := none, fault := some k, required := false }

/-- The event of a due entry. -/
def PathEvent.entry (a : Announcement) : PathEvent :=
  { cause := .announcement, id := some a.id, fault := none, required := false }

/-- The same event, marked "change required" (R98, R100, R106). -/
def PathEvent.mark (w : PathEvent) : PathEvent := { w with required := true }

/-- The timer that a state owns (R85). -/
def PathState.timerKind : PathState → Option PathTimerKind
  | .selecting => some .selector
  | .closing => some .close
  | .opening _ => some .openFeedback
  | .awaitLine => some .awaitLine
  | .coasting .loss => some .lossCoast
  | .isolated | .live | .coasting _ | .changing _ | .faulted _ => none

/-- The breaker kind that picks the feedback timeouts: the target's, AC with target S0 (R85). -/
def State.breakerKind (s : State) (t : Option SysId) : SupplyKind :=
  match s.descriptor t with
  | some d => d.breaker
  | none => .ac

/-- The duration of a path timer, in ms (R85). -/
def PathTimes.of (t : PathTimes) (kind : SupplyKind) : PathTimerKind → Nat
  | .selector => t.selector
  | .close => match kind with
    | .ac => t.closeAc
    | .dc => t.closeDc
  | .openFeedback => match kind with
    | .ac => t.openAc
    | .dc => t.openDc
  | .awaitLine => t.awaitLine
  | .lossCoast => t.lossCoast

/-- The timer after a change of state: it goes on in the state that owns it, and starts on entry (R85). -/
def State.pathTimer (s : State) (old new : Path) : Option PathTimer :=
  if new.state.timerKind = old.state.timerKind then old.timer
  else new.state.timerKind.map fun k =>
    { kind := k, remaining := s.pathTimes.of (s.breakerKind new.target) k }

/-- A record that has entered a state: the target goes in ISOLATED, the expected system in LIVE (R83, R97). -/
def State.enteredPath (s : State) (old new : Path) : Path :=
  { new with
    timer := s.pathTimer old new
    target := if new.state = .isolated then none else new.target
    expected := if new.state = .live then none else new.expected }

/-- Two states that PATH_STATE does not tell apart: coasts of any kind (R109, log 16). -/
def PathState.same (a b : PathState) : Bool :=
  match a, b with
  | .coasting _, .coasting _ => true
  | _, _ => decide (a = b)

/-- A change that PATH_STATE reports (R109). -/
def Path.shows (old new : Path) : Bool :=
  !PathState.same old.state new.state || decide (old.lowerZone ≠ new.lowerZone) || decide (old.expected ≠ new.expected)

/-- The PATH_STATE report of a change (R109). -/
def State.pathReport (s : State) (old new : Path) (w : PathEvent) : Report :=
  .pathState { state := new.state, previous := old.state, target := new.target, present := new.present,
               coastEnd := new.coastEnd, lowerZone := new.lowerZone, expected := new.expected, cause := w.cause,
               id := w.id, fault := w.fault, changeRequired := w.required, odometer := s.marker.odometer }

/-- ICE and CQM are told of a change of path state (R109). -/
def pathNotices (old new : Path) : List Notice :=
  noticeIf (decide (old.state ≠ new.state)) (.pathMoved new) ++ noticeIf (decide (old.isLive ≠ new.isLive)) .cqmPath

/-- One event changes the path record to `new`: CHG commands its channels, posts its report, and then sends its claims
and notices (R86, R109). -/
def Sys.movePath (y : Sys) (new : Path) (w : PathEvent) (notices : List Notice) : Sys :=
  let old := y.st.path
  let new := y.st.enteredPath old new
  let z := y.edit fun s => { s with path := new }.commandPath
  (if Path.shows old new || w.required then z.post (z.st.pathReport old new w) else z).sendAll
    (notices ++ pathNotices old new)

/-! ### Pan claims (R87, R88, R104) -/

/-- Claim records with the claims on PAN that go with them. -/
structure Claims where
  records : Vector Claim 4
  notices : List Notice
  deriving DecidableEq, Repr

/-- No claim. -/
def noClaims : Vector Claim 4 := .replicate 4 .none

/-- A pan raised for or down and fit for a system (R87). -/
def State.eligible (s : State) (i : SysId) (p : PanId) : Bool :=
  let r := s.pan p
  r.fitted && decide (r.inForce.system = some i) && (s.store.descriptors.get i).isSome
    && (decide (r.state = .rising) || decide (r.state = .up)
      || (decide (r.state = .down) && decide (s.ice.levels.get p ≠ .severe)))

/-- Pans by preference rank, and by number within a rank where they are given so (R87). -/
def State.byRank (s : State) (l : List PanId) : List PanId := l.foldl (placeByKey fun p => (s.pan p).rank) []

/-- The eligible pans in the order of R87: those in RISING or UP first and the others after them, each group by rank. -/
def State.claimOrder (s : State) (i : SysId) : List PanId :=
  let group (down : Bool) : List PanId :=
    s.byRank (allPans.filter fun p => s.eligible i p && decide ((s.pan p).state = .down) == down)
  group false ++ group true

/-- The pans taken for a system, in the order taken (R87). -/
def State.takenPans (s : State) (i : SysId) : List PanId :=
  match s.store.descriptors.get i with
  | some d => (s.claimOrder i).take d.maxRaised
  | none => []

/-- To claim pans for a system (R87). -/
def State.claim (s : State) (i : SysId) : Claims :=
  let l := s.takenPans i
  { records := l.foldl (fun v p => put v p .sent) noClaims, notices := l.map .pathRaise }

/-- The claim that a pan which the path no longer wants is sent: a lower when raised, a release otherwise (R88). -/
def Pan.unwanted (r : Pan) (p : PanId) : Notice := if r.state.raised then .pathLower p else .pathRelease p

/-- To withdraw the path's pans (R88). -/
def State.withdraw (s : State) : Claims :=
  { records := allPans.foldl (fun v p =>
      if (s.pan p).want = .path then put v p .none
      else match v.get p with
        | .sent | .refused _ => put v p .none
        | .none | .taken | .held | .ended => v) s.path.claims
    notices := (allPans.filter fun p => decide ((s.pan p).want = .path)).map fun p => (s.pan p).unwanted p }

/-- To lower all pans (R88). -/
def State.lowerAll (s : State) : Claims :=
  { records := noClaims
    notices := (allPans.filter fun p => (s.pan p).state.raised || decide ((s.pan p).want = .path)).map fun p =>
      (s.pan p).unwanted p }

/-- CHANGING lowers this pan: it serves another system and is raised, or serves the next target and waits for its
commit, whatever its state (R104, log 17). -/
def State.lowersFor (s : State) (next : SysId) (p : PanId) : Bool :=
  if (s.pan p).inForce.system = some next then s.store.marks.get p else (s.pan p).state.raised

/-- The lowering of CHANGING (R104). -/
def State.lowerFor (s : State) (next : SysId) : Claims :=
  { records := noClaims
    notices := allPans.flatMap fun p =>
      if s.lowersFor next p then [Notice.pathLower p]
      else if (s.pan p).want = .path then [Notice.pathRelease p] else [] }

/-! ### Moves that several rules share -/

/-- The path enters ISOLATED, with claims and with further notices. -/
def Sys.toIsolated (y : Sys) (k : Claims) (w : PathEvent) (notices : List Notice) : Sys :=
  y.movePath { y.st.path with state := .isolated, claims := k.records } w (notices ++ k.notices)

/-- The path enters CLOSING, and LIVE at once where the breaker already reads closed (R97, log 14). -/
def Sys.toClosing (y : Sys) (w : PathEvent) : Sys :=
  let z := y.movePath { y.st.path with state := .closing } w []
  if z.st.lines.breakerClosed then z.movePath { z.st.path with state := .live } (.of .feedback) [] else z

/-- The odometer lets a NEUTRAL coast close (R101). -/
def State.pastCoastEnd (s : State) : Bool :=
  match s.path.state with
  | .coasting (.neutral e) => decide (e ≤ s.marker.odometer)
  | _ => true

/-- The states in which CHG tests the closing condition (R89). -/
def PathState.testsClosing : PathState → Bool
  | .awaitLine | .coasting (.neutral _) | .coasting .loss => true
  | .isolated | .selecting | .closing | .live | .opening _ | .coasting .zone | .changing _ | .faulted _ => false

/-- CHG tests the closing condition, in the states in which it does (R89, R96, R101, R102). -/
def Sys.testClosing (y : Sys) (w : PathEvent) : Sys :=
  if y.st.path.state.testsClosing && y.st.closing.holds && y.st.pastCoastEnd then y.toClosing w else y

/-- No claim is live and no pan for the target is in RISING or UP (R96). -/
def State.connectionLost (s : State) : Bool :=
  !(allPans.any fun p => (s.path.claims.get p).isLive)
    && !(allPans.any fun p => decide ((s.pan p).inForce.system = s.path.target)
      && (decide ((s.pan p).state = .rising) || decide ((s.pan p).state = .up)))

/-- In AWAIT_LINE CHG tests for a lost connection (R96); its report has the cause PAN, on entry too (log 21). -/
def Sys.testLost (y : Sys) : Sys :=
  if decide (y.st.path.state = .awaitLine) && y.st.connectionLost then
    y.toIsolated { records := y.st.path.claims, notices := [] } (.faulty .pan .noPanForSystem)
      [.raised .noPanForSystem .path]
  else y

/-- The tests on entry to AWAIT_LINE (R96). A CLOSING that follows at once has the cause and the entry id of the entering
event in its own report too (log 21). -/
def Sys.awaitTests (y : Sys) (w : PathEvent) : Sys := (y.testClosing w).testLost

/-- The selector step for a target, with the claims that go with it (R91, R103, R105). That a CLOSING which follows at once
repeats the cause and the entry id in its report is log 21. -/
def Sys.selectorStep (y : Sys) (path : Path) (w : PathEvent) (k : Claims) : Sys :=
  if y.st.selectorArrived path.target then
    (y.movePath { path with state := .awaitLine, claims := k.records } w k.notices).awaitTests w
  else y.movePath { path with state := .selecting, claims := k.records } w k.notices

/-- The all-down point of CHANGING, where it is reached (R105). -/
def Sys.testAllDown (y : Sys) : Sys :=
  match y.st.path.state with
  | .changing n =>
    if y.st.allDown then
      let z := y.commitAll
      let path := { z.st.path with target := some n }
      let k := z.st.claim n
      if k.notices.isEmpty then
        z.movePath { path with state := .isolated, claims := k.records } (.faulty .commit .noPanForSystem)
          [.raised .noPanForSystem .path]
      else if path.lowerZone then z.movePath { path with state := .coasting .zone } (.of .commit) []
      else z.selectorStep path (.of .commit) k
    else y
  | _ => y

/-- The path enters CHANGING for a next target (R104). -/
def Sys.toChanging (y : Sys) (next : SysId) (w : PathEvent) : Sys :=
  let k := y.st.lowerFor next
  (y.movePath { y.st.path with state := .changing next, claims := k.records } w k.notices).testAllDown

/-- The path coasts towards a close onto its target, which is tested at once (R99, R101, R102, log 15). That a CLOSING which
follows at once repeats the cause and the entry id in its report is log 21. -/
def Sys.toCoasting (y : Sys) (kind : CoastKind) (w : PathEvent) : Sys :=
  (y.movePath { y.st.path with state := .coasting kind } w []).testClosing w

/-- The path coasts with every pan lowered (R99, R103, R106). -/
def Sys.toZone (y : Sys) (path : Path) (w : PathEvent) : Sys :=
  let k := y.st.lowerAll
  y.movePath { path with state := .coasting .zone, claims := k.records } w k.notices

/-- An open is complete: the path goes on by its reason, and in SAFE to ISOLATED (R99); its report has the cause
FEEDBACK, also where the breaker reads open at entry (log 21). -/
def Sys.completeOpen (y : Sys) : Sys :=
  let w := PathEvent.of .feedback
  match y.st.path.state with
  | .opening reason =>
    if y.st.outputs.mode = .safe then y.toIsolated y.st.lowerAll w []
    else match reason with
      | .neutral e => y.toCoasting (.neutral e) w
      | .loss => y.toCoasting .loss w
      | .change n => y.toChanging n w
      | .lowerZone => if y.st.path.lowerZone then y.toZone y.st.path w else y.toCoasting .loss w
      | .request | .pan => y.toIsolated y.st.withdraw w []
      | .earth => y.toIsolated y.st.lowerAll w []
  | _ => y

/-- The path enters OPENING with a reason; where the breaker already reads open the open is complete (R99). -/
def Sys.toOpening (y : Sys) (path : Path) (reason : OpeningReason) (w : PathEvent) : Sys :=
  let z := y.movePath { path with state := .opening reason } w []
  if z.st.lines.breakerClosed then z else z.completeOpen

/-- The path enters FAULTED (R107). -/
def Sys.toFaulted (y : Sys) (cause : PathFault) (k : FaultKind) (c : PathCause) : Sys :=
  let z := y.st.lowerAll
  y.movePath { y.st.path with state := .faulted cause, claims := z.records } (.faulty c k)
    (.raised k .path :: z.notices)

/-! ### Requests (R90 to R94, R107) -/

/-- The best-ranked fitted pan that is not TRIPPED, ties to the lower number (R90). -/
def State.bestPan (s : State) : Option PanId :=
  ((allPans.filter fun p => (s.pan p).fitted && decide ((s.pan p).state ≠ .tripped)).foldl
    (placeByKey fun p => (s.pan p).rank) []).head?

/-- The system of a CONNECT: its index, or what AUTO resolves to (R90). -/
def State.resolve (s : State) (index : Nat) : Except Reason SysId :=
  if index = 0xFF then
    match s.path.expected, s.bestPan with
    | some i, _ => .ok i
    | none, some p => match (s.pan p).inForce.system with
      | some i => .ok i
      | none => .error .noSystem
    | none, none => .error .noSystem
  else match systemOf index with
    | some i => .ok i
    | none => .error .badIndex

/-- The first check of R90 that fails for a system, with its reply. -/
def State.connectRefusal (s : State) (i : SysId) : Option Result :=
  if (s.store.descriptors.get i).isNone then some (.refused .unknownSystem)
  else if s.ifu.earthed then some (.refused .earthed)
  else if allPans.any fun p => (s.pan p).state.raised && decide ((s.pan p).inForce.system ≠ some i) then
    some (.refused .conflict)
  else if !(allPans.any fun p => (s.pan p).fitted && decide ((s.pan p).state ≠ .tripped)
      && decide ((s.pan p).inForce.system = some i) && decide (s.ice.levels.get p ≠ .severe)) then
    some (.refused .noPan)
  else if s.path.lowerZone then some (.refused .lowerZone)
  else if s.outputs.mode ≠ .run then some .mode
  else if s.ifu.backfeed then some (.refused .backfeed)
  else none

/-- CONNECT (R90, R91). -/
def Sys.connect (y : Sys) (c : Call) (index : Nat) : Sys :=
  if y.st.held then y.answer c .mode
  else if y.st.path.state ≠ .isolated then y.answer c .busy
  else match y.st.resolve index with
    | .error r => y.refuse c r
    | .ok i => match y.st.connectRefusal i with
      | some r => y.answer c r
      | none =>
        (y.answer c (.ok (.connected i))).selectorStep { y.st.path with target := some i } (.of .request)
          (y.st.claim i)

/-- ISOLATE (R92). -/
def Sys.isolate (y : Sys) (c : Call) : Sys :=
  if y.st.held then y.answer c .mode
  else match y.st.path.state with
    | .isolated => y.answer c (.ok .nothing)
    | .selecting | .awaitLine | .coasting _ | .changing _ =>
      (y.answer c (.ok .nothing)).toIsolated y.st.withdraw (.of .request) []
    | .closing | .live => (y.answer c (.ok .nothing)).toOpening y.st.path .request (.of .request)
    | .opening _ | .faulted _ => y.answer c .busy

/-- SET_AUTO (R93): 0 is off and 1 is on (log 9), and another value is refused OUT_OF_RANGE (log 10). -/
def Sys.setAuto (y : Sys) (c : Call) (setting : Nat) : Sys :=
  if y.st.held then y.answer c .mode
  else match yesNo[setting]? with
    | some b => (y.edit fun s => { s with path := { s.path with auto := b } }).answer c (.ok (.auto b))
    | none => y.refuse c .outOfRange

/-- CLEAR_PATH (R107). -/
def Sys.clearPath (y : Sys) (c : Call) : Sys :=
  if y.st.held then y.answer c .mode
  else match y.st.path.state with
    | .faulted _ =>
      if y.st.lines.breakerClosed || y.st.lines.selector.isNone then y.refuse c .stillClosed
      else (y.answer c (.ok .nothing)).movePath { y.st.path with state := .isolated } (.of .request)
        [.ended .selectorTimeout .path]
    | _ => y.answer c (.ok .nothing)

/-- The reply of READ_PATH (R94). DESIGN CHOICE: the breaker and the selector feedback, and the closing condition's part
of the selector, are the lines' as they stand, also while CHG is held and takes no change of them (R176, log 68). -/
def State.pathView (s : State) : PathView :=
  { path := s.path, present := s.path.present, coastEnd := s.path.coastEnd, bc := s.outputs.commanded.bc,
    bt := s.outputs.commanded.bt, sd := s.outputs.commanded.sd, breakerClosed := s.lines.breakerClosed,
    selector := s.lines.selector, earthed := s.ifu.earthed, line := s.sense.record.shown, closing := s.closing }

/-- READ_PATH (R94). -/
def Sys.readPath (y : Sys) (c : Call) : Sys := y.answer c (.ok (.path y.st.pathView))

/-! ### Feedback and timers -/

/-- The breaker feedback, as the lines have it, is taken (R86, R97, R98, R99). -/
def Sys.breakerEvent (y : Sys) : Sys :=
  let z := y.edit State.commandPath
  if z.st.lines.breakerClosed then
    if z.st.path.state = .closing then z.movePath { z.st.path with state := .live } (.of .feedback) [] else z
  else
    let z := z.send (.ended .breakerStuckClosed .path)
    match z.st.path.state with
    | .live => z.toOpening z.st.path .request (.of .breakerOpened)
    | .opening _ => z.completeOpen
    | _ => z

/-- The selector feedback, as the lines have it, is taken (R89, R95, R97, R98). -/
def Sys.selectorEvent (y : Sys) : Sys :=
  match y.st.path.state with
  | .selecting =>
    if y.st.selectorArrived y.st.path.target then
      (y.movePath { y.st.path with state := .awaitLine } (.of .feedback) []).awaitTests (.of .feedback)
    else y
  | .closing | .live =>
    if y.st.selectorArrived y.st.path.target then y
    else y.toFaulted .selectorLeftPosition .selectorTimeout .feedback
  | _ => y.testClosing (.of .feedback)

/-- The path timer of a kind runs (log 5). -/
def Path.runs (p : Path) (k : PathTimerKind) : Bool :=
  match p.timer with
  | some t => decide (t.kind = k)
  | none => false

/-- The selector move timer expires (R95). -/
def Sys.selectorMoveTimeout (y : Sys) : Sys :=
  if y.st.path.runs .selector then y.toFaulted .selectorNoArrival .selectorTimeout .timeout else y

/-- The close feedback timer expires (R97). -/
def Sys.closeFeedbackTimeout (y : Sys) : Sys :=
  if y.st.path.runs .close then
    y.toIsolated y.st.withdraw (.faulty .timeout .breakerNoClose) [.raised .breakerNoClose .path]
  else y

/-- The open feedback timer expires (R99). -/
def Sys.openFeedbackTimeout (y : Sys) : Sys :=
  if y.st.path.runs .openFeedback then y.toFaulted .breakerStuckClosed .breakerStuckClosed .timeout else y

/-- The await-line limit expires (R96). -/
def Sys.awaitLineLimit (y : Sys) : Sys :=
  if y.st.path.runs .awaitLine then
    y.toIsolated y.st.withdraw (.faulty .timeout .awaitExpired) [.raised .awaitExpired .path]
  else y

/-- The loss coast limit expires (R102). -/
def Sys.lossCoastLimit (y : Sys) : Sys :=
  if y.st.path.runs .lossCoast then
    y.toIsolated y.st.lowerAll (.faulty .timeout .lineLostUnannounced) [.raised .lineLostUnannounced .path]
  else y

/-! ### Notices to CHG -/

/-- The claim record of a pan after its change of state (R84). -/
def Claim.moved (c : Claim) (r : Pan) (new : PanState) : Claim :=
  match c with
  | .sent | .taken | .held =>
    match new with
    | .rising => if r.want = .path then .taken else c
    | .down | .tripped =>
      if r.want = .path then (if decide (c = .taken) && decide (r.hold ≠ .none) then .held else c)
      else if c = .sent then .sent else .ended
    | .up | .dipping | .falling | .dropping => c
  | .none | .refused _ | .ended => c

/-- The claim record of a pan replaced. -/
def State.setClaim (s : State) (p : PanId) (c : Claim) : State :=
  { s with path := { s.path with claims := put s.path.claims p c } }

/-- The last pan for the target has left UP (R97, R98, R102). -/
def State.lastLeft (s : State) (old : PanState) (system : Option SysId) : Bool :=
  decide (old = .up) && decide (system = s.path.target) && !s.panUpFor s.path.target

/-- A pan's change of state (R78). -/
def Sys.takePanMoved (y : Sys) (p : PanId) (old new : PanState) (system : Option SysId) : Sys :=
  let y := y.edit fun s => s.setClaim p ((s.path.claims.get p).moved (s.pan p) new)
  match y.st.path.state with
  | .awaitLine => y.awaitTests (.of .pan)
  | .closing | .live =>
    if y.st.lastLeft old system then y.toOpening y.st.path .pan (.of .pan) else y
  | .coasting (.neutral _) | .coasting .loss =>
    if y.st.lastLeft old system then y.toIsolated y.st.withdraw (.of .pan) [] else y.testClosing (.of .pan)
  | .changing _ => (y.sendIf new.raised (.pathLower p)).testAllDown
  | .isolated | .selecting | .opening _ | .coasting .zone | .faulted _ => y

/-- The answer to a path raise moves a record that is SENT (R84, log 19). -/
def Sys.takeClaimAnswer (y : Sys) (p : PanId) (c : Claim) : Sys :=
  (if y.st.path.claims.get p = .sent then y.edit fun s => s.setClaim p c else y).testLost

/-- A path want has gone, with PAN's reason where a retry was refused (R84). -/
def Sys.takeWantGone (y : Sys) (p : PanId) (why : Option ClaimReason) : Sys :=
  (if (y.st.path.claims.get p).isLive then
    y.edit fun s => s.setClaim p (match why with
      | some w => .refused w
      | none => .ended)
   else y).testLost

/-- A supply other than the target has been recognized: a mismatch (R96). -/
def Sys.mismatch (y : Sys) : Sys :=
  y.toIsolated y.st.lowerAll (.faulty .line .systemMismatch) [.raised .systemMismatch .path]

/-- RECOGNIZED from LSR (R96, R101, R102). -/
def Sys.takeRecognized (y : Sys) (i : SysId) : Sys :=
  if y.st.path.state.testsClosing then
    if y.st.path.target = some i then y.testClosing (.of .line) else y.mismatch
  else y

/-- LOST from LSR (R97, R98); in the other states it changes nothing but for the test of R89. -/
def Sys.takeLost (y : Sys) (i : SysId) : Sys :=
  match y.st.path.state with
  | .closing | .live => if y.st.path.target = some i then y.toOpening y.st.path .loss (.of .line) else y
  | _ => y.testClosing (.of .line)

/-- An odometer advance (R101). -/
def Sys.takeOdometer (y : Sys) : Sys :=
  match y.st.path.state with
  | .coasting (.neutral e) =>
    if y.st.closing.holds && decide (e ≤ y.st.marker.odometer) then y.toClosing (.of .odometer)
    else if e + 200 ≤ y.st.marker.odometer then
      (y.movePath { y.st.path with state := .coasting .loss } (.of .odometer) []).testClosing (.of .odometer)
    else y
  | _ => y

/-- An earthing change, as IFU holds it (R95, R96, R97, R98, R100, R102, R103, R104); in COASTING(ZONE) and CHANGING
the pans have been lowered already, and no further claim goes with it (log 32). -/
def Sys.takeEarthing (y : Sys) : Sys :=
  let w := PathEvent.of .earth
  if y.st.ifu.earthed then
    match y.st.path.state with
    | .isolated | .faulted _ => y
    | .coasting .zone | .changing _ => y.toIsolated { records := y.st.path.claims, notices := [] } w []
    | .selecting | .awaitLine | .coasting _ => y.toIsolated y.st.lowerAll w []
    | .closing | .live => y.toOpening y.st.path .earth w
    | .opening _ =>
      let k := y.st.lowerAll
      y.movePath { y.st.path with state := .opening .earth, claims := k.records } w k.notices
  else y.testClosing w

/-- A SAFE entry that PAN has not taken yet stands behind the claims that CHG has sent (R108). -/
def Sys.claimsAhead (y : Sys) : Sys :=
  if y.todo.contains .panSafe then { y with todo := y.todo.erase .panSafe ++ [.panSafeBehind] } else y

/-- What CHG does with its path on SAFE entry (R108). -/
def Sys.safePath (y : Sys) : Sys :=
  let w := PathEvent.of .safe
  let z := match y.st.path.state with
    | .live | .closing => y.toOpening y.st.path .request w
    | .selecting | .awaitLine | .coasting _ | .changing _ => y.toIsolated y.st.withdraw w []
    | .opening _ | .isolated | .faulted _ => y
  z.edit fun s => { s with path := { s.path with claims := noClaims } }

/-- SAFE entry: the lowers and releases that CHG sends on it reach PAN before PAN's own (R108). -/
def Sys.takePathSafe (y : Sys) : Sys :=
  let z := y.safePath
  if (z.todo.drop y.todo.length).any Notice.isClaim then z.claimsAhead else z

/-- At its release CHG takes the feedback as it stands (R179). -/
def Sys.takePathResume (y : Sys) : Sys :=
  (y.edit State.commandPath).sendIf (!y.st.lines.breakerClosed) (.ended .breakerStuckClosed .path)

/-! ### Due announcements (R98, R100, R103, R104, R106) -/

/-- The reason of an OPENING after a SYSTEM_AHEAD for another system (R100). -/
def OpeningReason.ahead (r : OpeningReason) (auto : Bool) (i : SysId) : OpeningReason :=
  match r, auto with
  | .request, _ | .earth, _ => r
  | _, true => .change i
  | .neutral _, false | .loss, false | .pan, false => .request
  | .change _, false | .lowerZone, false => r

/-- The reason of an OPENING after a LOWER_ZONE (R100). -/
def OpeningReason.zone : OpeningReason → OpeningReason
  | .neutral _ | .loss | .pan | .lowerZone => .lowerZone
  | .change n => .change n
  | .request => .request
  | .earth => .earth

/-- A SYSTEM_AHEAD for a system other than the target, in a state with a target. -/
def Sys.otherAhead (y : Sys) (i : SysId) (w : PathEvent) : Sys :=
  let p := y.st.path
  let expecting := { p with expected := some i }
  match p.state with
  | .selecting | .awaitLine | .coasting _ =>
    if p.auto then y.toChanging i w
    else
      let k := y.st.withdraw
      y.movePath { expecting with state := .isolated, claims := k.records } w.mark k.notices
  | .closing | .live =>
    if p.auto then y.toOpening p (.change i) w else y.toOpening expecting .request w.mark
  | .opening r =>
    match p.auto, r with
    | true, .request | true, .earth => y.movePath expecting w []
    | true, _ => y.movePath { p with state := .opening (r.ahead true i) } w []
    | false, _ => y.movePath { expecting with state := .opening (r.ahead false i) } w.mark []
  | .isolated | .faulted _ | .changing _ => y

/-- A SYSTEM_AHEAD. -/
def Sys.systemAhead (y : Sys) (i : SysId) (w : PathEvent) : Sys :=
  let p := y.st.path
  match p.state with
  | .isolated | .faulted _ => y.movePath { p with expected := some i } w []
  | .changing _ =>
    let k := y.st.lowerFor i
    y.movePath { p with state := .changing i, claims := k.records } w k.notices
  | _ => if p.target = some i then y else y.otherAhead i w

/-- The neutral handling of the target (R98). -/
def State.neutralHandling (s : State) : NeutralHandling :=
  match s.descriptor s.path.target with
  | some d => d.neutral
  | none => .openBreaker

/-- A NEUTRAL_AHEAD of a length, with its trigger. -/
def Sys.neutralAhead (y : Sys) (trigger length : Nat) (w : PathEvent) : Sys :=
  let p := y.st.path
  let e := trigger + length + 20
  match p.state with
  | .closing => y.toOpening p (.neutral e) w
  | .live => match y.st.neutralHandling with
    | .openBreaker => y.toOpening p (.neutral e) w
    | .lowerPans => y.toOpening { p with lowerZone := true } .lowerZone w
  | _ => y

/-- A LOWER_ZONE. -/
def Sys.zoneStart (y : Sys) (w : PathEvent) : Sys :=
  let p := { y.st.path with lowerZone := true }
  let k := y.st.lowerAll
  match p.state with
  | .closing | .live => y.toOpening p .lowerZone w
  | .opening r => y.movePath { p with state := .opening r.zone, claims := k.records } w k.notices
  | .selecting | .awaitLine | .coasting _ => y.toZone p w
  | .isolated | .faulted _ | .changing _ => y.movePath { p with claims := k.records } w k.notices

/-- A LOWER_ZONE_END: in COASTING(ZONE) the path connects again to its target (R103). -/
def Sys.zoneEnd (y : Sys) (w : PathEvent) : Sys :=
  let p := { y.st.path with lowerZone := false }
  match p.state, p.target with
  | .coasting .zone, some i => y.selectorStep p w (y.st.claim i)
  | _, _ => y.movePath p w []

/-- CHG takes a due entry. -/
def Sys.takePathDue (y : Sys) (a : Announcement) : Sys :=
  let w := PathEvent.entry a
  match a.what with
  | .systemAhead i => y.systemAhead i w
  | .neutralAhead n => y.neutralAhead a.trigger n w
  | .lowerZone => y.zoneStart w
  | .lowerZoneEnd => y.zoneEnd w
  | .icePermit | .iceForbid => y

/-! ### Start-up (R110) -/

/-- The path as it begins after a load. -/
def State.startPath (s : State) : State :=
  let fresh := { Path.reset with auto := s.path.auto }
  let path := if s.lines.breakerClosed then
      { fresh with state := .opening .request,
                   timer := some { kind := .openFeedback, remaining := s.pathTimes.openAc } }
    else fresh
  { s with path := path }.commandPath

end Sys2Proof.Machine
end

