-- ==== Sys2Proof/Machine/IceControl.lean ====
section
/-! DEFINITION. ICE: zones, budget, levels, programs and the raise retry (chapter 6). Powers are in tenths of a kW. -/

namespace Sys2Proof.Machine

/-! ### One event at ICE -/

/-- A program in one event: as it stood before (none for one that joins), as it stands, and its end. -/
structure Slot where
  before : Option Program
  now : Program
  ended : Option ProgramEnd
  deriving DecidableEq, Repr

/-- One event at ICE: ICE's state but for the Program List, the zones as the event left them before any evaluation, its
programs, the level reports and the notices so far, and whether the evaluation ended a program. -/
structure Work where
  ice : Ice
  start : Ice
  slots : List Slot
  levels : List LevelReport
  notices : List Notice
  again : Bool
  deriving DecidableEq, Repr

/-- An event begins with the list as it stands. -/
def Work.of (i : Ice) : Work :=
  { ice := i, start := i, slots := i.programs.map fun g => { before := some g, now := g, ended := none }, levels := [],
    notices := [], again := false }

/-- Notices added. -/
def Work.tell (w : Work) (l : List Notice) : Work := { w with notices := w.notices ++ l }

/-- The programs that still stand in the list. -/
def Work.programs (w : Work) : List Program := (w.slots.filter fun t => t.ended.isNone).map Slot.now

/-- A program joins the end of the list (R120). -/
def Work.join (w : Work) (g : Program) : Work :=
  { w with slots := w.slots ++ [{ before := none, now := g, ended := none }] }

/-- A pan's level takes a value (R118, R119). -/
def Work.setLevel (w : Work) (p : PanId) (l : IceLevel) (cause : LevelCause) : Work :=
  let old := w.ice.levels.get p
  if old = l then w
  else { w with ice := { w.ice with levels := put w.ice.levels p l },
                levels := w.levels ++ [{ pan := p, level := l, previous := old, cause := cause }] }

/-- What ICE sends when a program ends: RETRY or CANCELLED for an armed retry (R127), and the end of a scrape that runs
(R124). -/
def Program.endNotices (g : Program) (e : ProgramEnd) : List Notice :=
  noticeIf g.armed (.retryMessage g.pan (if e = .completed then .retry else .cancelled))
  ++ if decide (g.kind = .scrape) && decide (g.state = .running) then
      [.iceOffset g.pan 0, .scrapeMoved g.pan false] else []

/-- Each program that stands in the list replaced, with notices, by a rule that may end it. -/
def Work.step (w : Work) (rule : Program → Program × Option ProgramEnd × List Notice) : Work :=
  let l := w.slots.map fun t => match t.ended with
    | some _ => (t, [])
    | none =>
      let r := rule t.now
      match r.2.1 with
      | none => ({ t with now := r.1 }, r.2.2)
      | some e => ({ t with now := { r.1 with armed := false }, ended := some e }, r.2.2 ++ r.1.endNotices e)
  { w with slots := l.map Prod.fst, notices := w.notices ++ (l.map Prod.snd).flatten }

/-- The program of a pan ends. -/
def Work.endProgram (w : Work) (p : PanId) (e : ProgramEnd) : Work :=
  w.step fun g => (g, if g.pan = p then some e else none, [])

/-! ### Evaluation (R113 to R116, R121) -/

/-- The demand of a pan's head zone (R113). -/
def State.headDemand (s : State) (w : Work) (z : Zone) (p : PanId) : Demand :=
  match (s.pan p).inForce.policy, z.mode with
  | .off, _ => .none
  | .forced, _ => .forced
  | .auto, .forced => .forced
  | .auto, .off => .none
  | .auto, .auto =>
    if w.programs.any fun g => decide (g.pan = p) && decide (g.kind = .heat) then .program
    else if w.ice.weather || decide (w.ice.levels.get p ≠ .clear) then .autoIcing
    else .none

/-- The demand of a zone (R113). -/
def State.demandOf (s : State) (w : Work) (z : Zone) : Demand :=
  if z.fitted then
    match z.location, z.mode with
    | .panHead p, _ => s.headDemand w z p
    | _, .forced => .forced
    | _, .off => .none
    | _, .auto => if w.ice.weather then .autoIcing else .none
  else .none

/-- The state of a zone that is demanded and does not fit in what is left of the budget (R115). That a zone in SHED stays
SHED at SAFE entry too, where R133 says WAITING, is log 56. -/
def ZoneState.unadmitted : ZoneState → ZoneState
  | .on | .shed => .shed
  | .off | .waiting => .waiting
  | .faulted => .faulted

/-- The allocation takes one zone (R115). -/
def allocateZone (z : Nat × Vector Zone 12) (i : ZoneId) : Nat × Vector Zone 12 :=
  let r := z.2.get i
  if !r.fitted then (z.1, put z.2 i { r with state := .off })
  else if r.state = .faulted then z
  else if r.demand = .none then (z.1, put z.2 i { r with state := .off })
  else if r.rated ≤ z.1 then (z.1 - r.rated, put z.2 i { r with state := .on })
  else (z.1, put z.2 i { r with state := r.state.unadmitted })

/-- The zones in order of priority, and within one priority by index (R115). -/
def zoneOrder (zones : Vector Zone 12) : List ZoneId := allZones.foldl (placeByKey fun i => (zones.get i).priority) []

/-- The allocation of a budget (R115). -/
def allocate (budget : Nat) (zones : Vector Zone 12) : Vector Zone 12 :=
  ((zoneOrder zones).foldl allocateZone (budget, zones)).2

/-- What a HEAT program does with the state of its head zone (R121). -/
def heatStep (i : Ice) (g : Program) : Program × Option ProgramEnd :=
  match (i.headZone g.pan).map fun z => (i.zones.get z).state with
  | some .on => ({ g with state := .running }, none)
  | some .waiting | some .shed => ({ g with state := .paused }, none)
  | some .off | none => (g, some (.aborted .noDemand))
  | some .faulted => (g, some (.aborted .zoneFault))

/-- An evaluation (R116): budget, demands, allocation, and then the HEAT programs. -/
def State.evaluate (s : State) (w : Work) : Work :=
  let budget := s.heaterBudget
  let zones := w.ice.zones.map fun z => { z with demand := s.demandOf w z }
  let w := { w with ice := { w.ice with budget := budget, zones := allocate budget zones } }
  let z := w.step fun g => match g.kind with
    | .heat => ((heatStep w.ice g).1, (heatStep w.ice g).2, [])
    | .dip | .scrape => (g, none, [])
  { z with again := decide (z.programs.length < w.programs.length) }

/-! ### Reports (R134) -/

/-- A program as the reply and the reports of an event show it: a DIP that the event sends leaves behind them, and is
not in flight yet (R123, R130, R134; log 45). -/
def Work.shown (w : Work) (g : Program) : Program :=
  { g with inFlight := g.inFlight && !w.notices.contains (.dip g.pan) }

/-- The program report of a slot of an event, where it has one. -/
def Slot.report (w : Work) (t : Slot) : List Report :=
  match t.before, t.ended with
  | some b, none =>
    if b.state = t.now.state ∧ b.armed = t.now.armed then []
    else [.iceProgram { program := w.shown t.now, previous := some b.state, ended := none }]
  | b, e => [.iceProgram { program := w.shown t.now, previous := b.map Program.state, ended := e }]

/-- The report of a change of one zone's state, where it has one; the budget and the sum are those after the change
(log 49). -/
def zoneReport (before after : Ice) (i : ZoneId) (cause : ZoneCause) : List Report :=
  let a := before.zones.get i
  let b := after.zones.get i
  if a.state = b.state then []
  else [.iceZone { zone := i, state := b.state, previous := a.state, demand := b.demand, mode := b.mode,
                   budget := after.budget, sumOn := sumOn after.zones, cause := cause }]

/-- The zone reports of an event, in zone order: a zone that the event moves itself and that its evaluation moves
again has one report of each change (R128, R134). -/
def Work.zoneReports (w : Work) (before : Ice) (cause : ZoneId → ZoneCause) : List Report :=
  allZones.flatMap fun i => zoneReport before w.start i (cause i) ++ zoneReport w.start w.ice i (cause i)

/-- The reports of an event: levels, programs in list order, zones in zone order (R134). -/
def Work.reports (w : Work) (before : Ice) (cause : ZoneId → ZoneCause) : List Report :=
  w.levels.map Report.iceLevel ++ w.slots.flatMap (Slot.report w) ++ w.zoneReports before cause

/-- The place of a notice in the order of R134: answers, dips, RETRY and CANCELLED, offsets, scrapes, faults. -/
def Notice.iceKey : Notice → Nat
  | .retryMessage _ .armed | .retryMessage _ (.declined _) => 0
  | .dip _ => 1
  | .retryMessage _ .retry | .retryMessage _ .cancelled => 2
  | .iceOffset _ _ => 3
  | .scrapeMoved _ _ => 4
  | _ => 5

/-- The notices of an event in the order in which ICE sends them (R134). -/
def Work.sends (w : Work) : List Notice := w.notices.foldl (placeByKey Notice.iceKey) []

/-- ICE takes an event's outcome: its state and channels, its reports, then its notices. -/
def Sys.publish (y : Sys) (w : Work) (cause : ZoneId → ZoneCause) : Sys :=
  let before := y.st.ice
  ((y.edit fun s => { s with ice := { w.ice with programs := w.programs } }.commandHeaters).postAll
    (w.reports before cause)).sendAll w.sends

/-- The state as ICE sees it: the path and the output mode as it was last told of them (R114, R122). -/
def Sys.seen (y : Sys) : State :=
  { y.st with path := y.told.path, outputs := { y.st.outputs with mode := y.told.mode } }

/-- ICE takes the path and the output mode as they stand: at a start-up, at its release and at DRIVE entry (R133, R135). -/
def Sys.tellIce (y : Sys) : Sys := { y with told := y.st.tells }

/-- The cause of every change of an evaluation. -/
def byEvaluation (_ : ZoneId) : ZoneCause := .evaluation

/-- The further evaluations that programs ended in an evaluation start; the list holds two at most (R116, R120). -/
def Sys.evaluateAgain : Nat → Sys → Work → Sys
  | 0, y, _ => y
  | k + 1, y, w =>
    if w.again then
      let v := y.seen.evaluate (Work.of y.st.ice)
      Sys.evaluateAgain k (y.publish v byEvaluation) v
    else y

/-- An event with an evaluation, published, with the further evaluations that it starts. -/
def Sys.publishAll (y : Sys) (w : Work) (cause : ZoneId → ZoneCause) : Sys :=
  (y.publish w cause).evaluateAgain 3 w

/-- An event that has been worked out is evaluated and published. -/
def Sys.evaluate (y : Sys) (w : Work) : Sys := y.publishAll (y.seen.evaluate w) byEvaluation

/-- An event is evaluated where `b` holds, and published. -/
def Sys.evaluateIf (y : Sys) (b : Bool) (w : Work) : Sys :=
  if b then y.evaluate w else y.publish w byEvaluation

/-! ### DIP and SCRAPE programs (R122 to R124) -/

/-- The wait time of a DIP program, in ms (R122). -/
abbrev dipWait : Nat := 60000

/-- A DIP program sends its next dip where it can (R123). -/
def State.nextDip (s : State) (g : Program) : Program × List Notice :=
  if decide (g.state = .running) && !g.inFlight && decide (0 < g.progress) && decide ((s.pan g.pan).state = .up) then
    ({ g with inFlight := true }, [.dip g.pan])
  else (g, [])

/-- The conditions of a DIP program are tested (R122). -/
def State.testDip (s : State) (g : Program) : Program × List Notice :=
  if s.dipConditions g.pan then s.nextDip { g with state := .running, wait := none }
  else if g.state = .running then ({ g with state := .waiting, wait := some dipWait }, [])
  else (g, [])

/-- Every DIP program tested. -/
def State.testDips (s : State) (w : Work) : Work :=
  w.step fun g => match g.kind with
    | .dip => ((s.testDip g).1, none, (s.testDip g).2)
    | .heat | .scrape => (g, none, [])

/-- Every SCRAPE program RUNNING while the path is LIVE and PAUSED while it is not (R124). -/
def State.stepScrapes (s : State) (w : Work) : Work :=
  w.step fun g => match g.kind, g.state, s.path.isLive with
    | .scrape, .running, false => ({ g with state := .paused }, none, [.iceOffset g.pan 0, .scrapeMoved g.pan false])
    | .scrape, .paused, true => ({ g with state := .running }, none, [.iceOffset g.pan 30, .scrapeMoved g.pan true])
    | _, _, _ => (g, none, [])

/-- A rule for the DIP program of one pan. -/
def Work.stepDip (w : Work) (p : PanId) (rule : Program → Program × Option ProgramEnd × List Notice) : Work :=
  w.step fun g => if decide (g.pan = p) && decide (g.kind = .dip) then rule g else (g, none, [])

/-- A program left the list in this event. -/
def Work.shrunk (w : Work) : Bool := w.slots.any fun t => t.ended.isSome

/-- An event that may end programs: an evaluation follows where one left the list (R116). -/
def Sys.finish (y : Sys) (w : Work) : Sys := y.evaluateIf w.shrunk w

/-- Dip outcomes from PAN (R123). -/
def Sys.takeDipRefused (y : Sys) (p : PanId) : Sys :=
  y.finish ((Work.of y.st.ice).stepDip p fun g =>
    ({ g with inFlight := false, state := .waiting, wait := some dipWait }, none, []))

def Sys.takeDipDone (y : Sys) (p : PanId) : Sys :=
  y.finish ((Work.of y.st.ice).stepDip p fun g =>
    let g := { g with inFlight := false, progress := g.progress - 1 }
    if g.progress = 0 then (g, some .completed, []) else ((y.seen.testDip g).1, none, (y.seen.testDip g).2))

def Sys.takeDipFailed (y : Sys) (p : PanId) : Sys :=
  y.finish ((Work.of y.st.ice).stepDip p fun g => (g, some (.aborted .dipFailed), []))

def Sys.takeDipLeft (y : Sys) (p : PanId) : Sys :=
  y.finish ((Work.of y.st.ice).stepDip p fun g =>
    let g := { g with inFlight := false }
    ((y.seen.testDip g).1, none, (y.seen.testDip g).2))

/-- A pan has entered UP: the DIP programs are tested (R122). -/
def Sys.takePanEnteredUp (y : Sys) : Sys := y.finish (y.seen.testDips (Work.of y.st.ice))

/-- A pan has left UP or DIPPING: its SCRAPE is ABORTED, and the DIP programs are tested (R122, R124). -/
def Sys.takePanLeft (y : Sys) (p : PanId) : Sys :=
  y.finish (y.seen.testDips ((Work.of y.st.ice).step fun g =>
    (g, if decide (g.pan = p) && decide (g.kind = .scrape) then some (.aborted .pan) else none, [])))

/-- Whole metres travelled (R124). -/
def Sys.takeMetres (y : Sys) (n : Nat) : Sys :=
  y.finish ((Work.of y.st.ice).step fun g =>
    if decide (g.kind = .scrape) && decide (g.state = .running) then
      ({ g with progress := g.progress - n }, if g.progress ≤ n then some .completed else none, [])
    else (g, none, []))

/-- A due ICE_PERMIT or ICE_FORBID (R125). -/
def Sys.takeIceDue (y : Sys) (a : Announcement) : Sys :=
  match a.what with
  | .icePermit => y.edit fun s => { s with ice := { s.ice with permit := true } }
  | .iceForbid =>
    let w := Work.of { y.st.ice with permit := false }
    y.finish (w.step fun g => (g, if g.kind = .scrape then some .completed else none, []))
  | .systemAhead _ | .neutralAhead _ | .lowerZone | .lowerZoneEnd => y

/-! ### Levels and the retry (R118, R119, R126, R127) -/

/-- An event that may have changed a level: an evaluation follows where one did (R116). -/
def Sys.finishLevel (y : Sys) (w : Work) : Sys := y.evaluateIf (!w.levels.isEmpty) w

/-- A successful raise (R118). -/
def Sys.takeRaiseOk (y : Sys) (p : PanId) (time nominal : Nat) : Sys :=
  let w := Work.of y.st.ice
  if time ≤ nominal + 1500 then y.finishLevel (w.setLevel p .clear .raiseOk)
  else if y.st.ice.levels.get p = .clear then y.finishLevel (w.setLevel p .light .raiseSlow)
  else y

/-- The level that a raise timeout gives (R118). -/
def IceLevel.timedOut (l : IceLevel) (failures : Nat) : IceLevel :=
  if 2 ≤ failures then .severe else if l = .severe then .severe else .heavy

/-- The level that a disturbed window gives on a cold roof (R119). -/
def IceLevel.raisedOne : IceLevel → IceLevel
  | .clear => .light
  | .light => .heavy
  | .heavy => .heavy
  | .severe => .severe

/-- The duration of a HEAT, in ms (R121). -/
def IceLevel.heatTime : IceLevel → Nat
  | .clear | .light => 60000
  | .heavy => 120000
  | .severe => 180000

/-- A HEAT program that starts; its state comes from the evaluation that follows (R121). -/
def Ice.newHeat (i : Ice) (p : PanId) (origin : Origin) (armed : Bool) : Program :=
  { pan := p, kind := .heat, state := .paused, progress := (i.levels.get p).heatTime, origin := origin,
    inFlight := false, wait := none, armed := armed }

/-- The pan has a head zone that is neither FAULTED nor in mode OFF (R126). -/
def Ice.headZoneFit (i : Ice) (p : PanId) : Bool :=
  match i.headZone p with
  | some z => decide ((i.zones.get z).state ≠ .faulted) && decide ((i.zones.get z).mode ≠ .off)
  | none => false

/-- Why a first timeout is declined: the first line of R126 that applies. -/
def State.declineReason (s : State) (p : PanId) : Option DeclineReason :=
  if (s.pan p).inForce.policy ≠ .auto then some .policy
  else if (s.ice.program p).isSome then some .program
  else if 2 ≤ s.ice.programs.length then some .listFull
  else if !s.ice.headZoneFit p then some .zone
  else none

/-- A first timeout is declined (R126). -/
def State.declines (s : State) (p : PanId) : Bool := (s.declineReason p).isSome

/-- A raise timeout (R118, R126). The level's change and the AUTO HEAT that joins the list with it make one evaluation
(log 53). -/
def Sys.takeRaiseTimedOut (y : Sys) (p : PanId) (failures : Nat) : Sys :=
  let w := (Work.of y.st.ice).setLevel p ((y.st.ice.levels.get p).timedOut failures) .timeout
  if failures ≠ 1 then y.finishLevel w
  else match y.st.declineReason p with
    | some d => y.finishLevel (w.tell [.retryMessage p (.declined d)])
    | none => y.evaluate ((w.join (w.ice.newHeat p .auto true)).tell [.retryMessage p .armed])

/-- A disturbed window (R119). -/
def Sys.takeDisturbed (y : Sys) (p : PanId) : Sys :=
  if y.st.ice.cold then
    y.finishLevel ((Work.of y.st.ice).setLevel p (y.st.ice.levels.get p).raisedOne .disturbed)
  else y

/-- PAN has withdrawn a retry: the HEAT goes on with no retry armed (R127). -/
def Sys.takeRetryWithdrawn (y : Sys) (p : PanId) : Sys :=
  y.finish ((Work.of y.st.ice).step fun g => ({ g with armed := g.armed && decide (g.pan ≠ p) }, none, []))

/-- HEAT_COMPLETE acts on a HEAT that is RUNNING: COMPLETED, the level CLEAR, and one evaluation (R121, log 5). -/
def Sys.heatComplete (y : Sys) (p : PanId) : Sys :=
  match y.st.ice.program p with
  | some { kind := .heat, state := .running, .. } =>
    y.evaluate (((Work.of y.st.ice).setLevel p .clear .heat).endProgram p .completed)
  | _ => y

/-- DIP_WAIT_EXPIRY acts on a DIP that is WAITING (R122, log 5). -/
def Sys.dipWaitExpiry (y : Sys) (p : PanId) : Sys :=
  match y.st.ice.program p with
  | some { kind := .dip, state := .waiting, .. } =>
    y.finish ((Work.of y.st.ice).endProgram p (.aborted .conditions))
  | _ => y

/-! ### Neighbours, ambient inputs and feedback -/

/-- The budget that the state now gives differs from the one held (R114). -/
def State.budgetMoved (s : State) : Bool := decide (s.heaterBudget ≠ s.ice.budget)

/-- CHG tells of a change of the path: the budget, the DIP and the SCRAPE programs (R114, R122, R124). -/
def Sys.takeIcePath (y : Sys) (path : Path) : Sys :=
  let y := { y with told := { y.told with path := path } }
  y.evaluateIf y.seen.budgetMoved (y.seen.stepScrapes (y.seen.testDips (Work.of y.st.ice)))

/-- AOS tells of a change of the output mode (R133). -/
def Sys.takeIceMode (y : Sys) (mode : OutputMode) : Sys :=
  let y := { y with told := { y.told with mode := mode } }
  y.evaluateIf y.seen.budgetMoved (Work.of y.st.ice)

/-- A commit or a NOW success (R116). -/
def Sys.takeProfileWritten (y : Sys) : Sys := y.evaluate (Work.of y.st.ice)

/-- A reading held within the range of the temperature input (R112). -/
def holdTemperature (n : Int) : Int := max (-500) (min 600 n)

/-- ICE's ambient readings taken: an evaluation follows a change of icing weather (R112). -/
def Sys.setAmbient (y : Sys) (temperature : Int) (wet : Bool) : Sys :=
  let new := { y.st.ice with temperature := temperature, wet := wet }
  y.evaluateIf (decide (new.weather ≠ y.st.ice.weather)) (Work.of new)

/-- The feedback of every fitted zone as the lines have it. -/
def State.zonesRead (s : State) (check : Zone → Check) : Vector Zone 12 :=
  Vector.ofFn fun i : ZoneId =>
    let z := s.ice.zones.get i
    { z with feedback := if z.fitted then s.lines.contactors.get i else z.feedback, check := check z }

/-- ICE with its inputs as the lines have them, no check running: the ambient readings (R135, R133) and the contactors'
feedback, which a release takes afresh (R167, R179). DESIGN CHOICE: the end of a load takes the feedback afresh too, which
R135 does not say (log 65). -/
def State.iceRead (s : State) : Ice :=
  { s.ice with temperature := holdTemperature s.lines.ambient, wet := s.lines.wet,
               zones := s.zonesRead fun _ => .agree }

/-- At its release ICE takes its inputs and neighbours afresh, evaluates and tests its DIP programs (R133, R179). -/
def Sys.takeIceResume (y : Sys) : Sys :=
  let y := y.tellIce
  y.evaluate (y.seen.stepScrapes (y.seen.testDips (Work.of y.st.iceRead)))

/-- The first evaluation after a load (R135), with the contactors' feedback as it then stands (log 65). -/
def Sys.takeIceStart (y : Sys) : Sys :=
  let y := y.tellIce
  y.publishAll (y.seen.evaluate (Work.of y.st.iceRead)) fun _ => .start

/-- ICE's evaluation at DRIVE entry, before it is held; every running check stops (R117, R176). -/
def Sys.iceDrive (y : Sys) : Sys :=
  (y.tellIce.evaluate (Work.of y.st.ice)).edit fun s =>
    { s with ice := { s.ice with zones := s.ice.zones.map fun z => { z with check := .agree } } }

/-- A zone replaced. -/
def Ice.setZone (i : Ice) (z : ZoneId) (r : Zone) : Ice := { i with zones := put i.zones z r }

/-- A change of a contactor's feedback is taken by a fitted zone (R117). -/
def Sys.takeHeaterFeedback (y : Sys) (z : ZoneId) (closed : Bool) : Sys :=
  let r := y.st.ice.zones.get z
  if r.fitted then y.edit fun s => { s with ice := s.ice.setZone z { r with feedback := closed } } else y

/-- FEEDBACK_CHECK_EXPIRY acts on a zone whose check runs: HEATER_FEEDBACK, and FAULTED (R117, log 5). -/
def Sys.feedbackCheckExpiry (y : Sys) (z : ZoneId) : Sys :=
  let r := y.st.ice.zones.get z
  match r.check with
  | .running _ =>
    let w := (Work.of (y.st.ice.setZone z { r with check := .expired, state := .faulted })).tell
      [.raised .heaterFeedback (.zone z)]
    if r.state = .faulted then y.publish w byEvaluation
    else y.publishAll (y.seen.evaluate w) fun i => if i = z then .feedback else .evaluation
  | .agree | .expired => y

/-- A check after a step, by whether feedback and driven value differ (R117). -/
def Check.after (c : Check) (differ : Bool) : Check :=
  match c, differ with
  | _, false => .agree
  | .agree, true => .running 500
  | .running n, true => .running n
  | .expired, true => .expired

/-- The feedback checks follow the feedback and the driven values, while ICE runs (R117). -/
def State.recheck (s : State) : State :=
  if s.jobsRun then
    { s with ice := { s.ice with zones := Vector.ofFn fun i : ZoneId =>
        let z := s.ice.zones.get i
        { z with check := z.check.after (z.fitted && (z.feedback != s.outputs.driven.hz.get i)) } } }
  else s

/-! ### Requests (R128 to R132) -/

/-- ZONE_MODE (R128). -/
def Sys.zoneMode (y : Sys) (c : Call) (f : ZoneModeFields) : Sys :=
  if y.st.held then y.answer c .mode
  else match zoneOf f.zone with
    | none => y.refuse c .badZone
    | some z => match ZoneMode.all[f.mode]? with
      | none => y.refuse c .outOfRange
      | some m =>
        let r := y.st.ice.zones.get z
        if !r.fitted then y.refuse c .unfitted
        else
          let faulted := decide (r.state = .faulted)
          let new := if faulted then { r with mode := m, state := .off, check := .agree } else { r with mode := m }
          let w := y.seen.evaluate ((Work.of (y.st.ice.setZone z new)).tell
            (noticeIf faulted (.ended .heaterFeedback (.zone z))))
          (y.answer c (.ok (.zone m (w.ice.zones.get z).state))).publishAll w fun i =>
            if i = z then .request else .evaluation

/-- ICE_LEVEL (R129). -/
def Sys.iceLevel (y : Sys) (c : Call) (f : IceLevelFields) : Sys :=
  if y.st.held then y.answer c .mode
  else match panOf f.pan with
    | none => y.refuse c .badPan
    | some p => match IceLevel.all[f.level]? with
      | none => y.refuse c .outOfRange
      | some l => (y.answer c (.ok (.level (y.st.ice.levels.get p) l))).finishLevel
          ((Work.of y.st.ice).setLevel p l .request)

/-- The checks 4 to 12 of R130, with the reply of the first that fails. -/
def State.startRefusal (s : State) (p : PanId) (k : ProgramKind) : Option Result :=
  let r := s.pan p
  if !r.fitted then some (.refused .unfitted)
  else if (s.ice.program p).isSome then some .busy
  else if 2 ≤ s.ice.programs.length then some .full
  else match k with
    | .heat =>
      if r.inForce.policy = .off then some (.refused .policyOff)
      else match s.ice.headZone p with
        | none => some (.refused .noZone)
        | some z =>
          if (s.ice.zones.get z).state = .faulted then some (.refused .zoneFault)
          else if (s.ice.zones.get z).mode = .off ∧ r.inForce.policy = .auto then some (.refused .zoneOff)
          else none
    | .dip => if r.state ≠ .up then some (.refused .notUp) else none
    | .scrape =>
      if r.state ≠ .up then some (.refused .notUp)
      else if !s.ice.permit then some (.refused .noPermit)
      else none

/-- A program that START_PROGRAM adds, and what its start sends (R123, R124, R130). -/
def State.newProgram (s : State) (p : PanId) (k : ProgramKind) : Program × List Notice :=
  match k with
  | .heat => (s.ice.newHeat p .link false, [])
  | .dip => s.testDip
      { pan := p, kind := .dip, state := .running, progress := 3, origin := .link, inFlight := false, wait := none,
        armed := false }
  | .scrape =>
    let g : Program := { pan := p, kind := .scrape, state := .paused, progress := s.ice.scrapeLength, origin := .link,
                         inFlight := false, wait := none, armed := false }
    if s.path.isLive then ({ g with state := .running }, [.iceOffset p 30, .scrapeMoved p true]) else (g, [])

/-- The program of a pan as the reply to an event shows it (R130, R131). -/
def Work.programOf (w : Work) (p : PanId) (default : Program) : Program :=
  w.shown (match w.slots.find? fun t => t.now.pan = p with
    | some t => t.now
    | none => default)

/-- START_PROGRAM (R130). -/
def Sys.startProgram (y : Sys) (c : Call) (f : StartProgramFields) : Sys :=
  if y.st.outputs.mode ≠ .run then y.answer c .mode
  else match panOf f.pan with
    | none => y.refuse c .badPan
    | some p => match ProgramKind.all[f.kind]? with
      | none => y.refuse c .badKind
      | some k => match y.st.startRefusal p k with
        | some r => y.answer c r
        | none =>
          let g := y.seen.newProgram p k
          let w := y.seen.evaluate (((Work.of y.st.ice).join g.1).tell g.2)
          (y.answer c (.ok (.program (w.programOf p g.1)))).publishAll w byEvaluation

/-- STOP_PROGRAM (R131). -/
def Sys.stopProgram (y : Sys) (c : Call) (pan : Nat) : Sys :=
  if y.st.held then y.answer c .mode
  else match panOf pan with
    | none => y.refuse c .badPan
    | some p => match y.st.ice.program p with
      | none => y.refuse c .noProgram
      | some g =>
        let w := (Work.of y.st.ice).endProgram p .stopped
        (y.answer c (.ok (.program (w.programOf p g)))).evaluate w

/-- The reply of READ_ICE (R132). -/
def State.iceView (s : State) : IceView :=
  { zones := s.ice.zones, commanded := s.outputs.commanded.hz, driven := s.outputs.driven.hz, budget := s.ice.budget,
    sumOn := sumOn s.ice.zones, source := s.budgetSource, temperature := s.ice.temperature, wet := s.ice.wet,
    icing := s.ice.icing, cold := s.ice.cold, weather := s.ice.weather, levels := s.ice.levels,
    programs := s.ice.programs, permit := s.ice.permit, standby := s.ice.standby, scrapeLength := s.ice.scrapeLength }

/-- READ_ICE (R132). -/
def Sys.readIce (y : Sys) (c : Call) : Sys := y.answer c (.ok (.ice y.st.iceView))

end Sys2Proof.Machine
end

