-- ==== Sys2Proof/Machine/QualityControl.lean ====
section
/-! DEFINITION. CQM: arcs, windows, the gate and the counters (chapter 7). -/

namespace Sys2Proof.Machine

/-- A quality record replaced. -/
def State.putQuality (s : State) (p : PanId) (r : QualityRecord) : State :=
  { s with cqm := { s.cqm with records := put s.cqm.records p r } }

/-! ### Measuring (R138) -/

/-- A record that starts measuring; its counters are not touched. -/
def QualityRecord.begin (r : QualityRecord) : QualityRecord :=
  { r with state := .settling, settle := 0, clean := 0, steady := 0, arcs := 0, elapsed := some 0 }

/-- A record that stops measuring: the window in progress and a pending inject are dropped. -/
def QualityRecord.halt (r : QualityRecord) : QualityRecord :=
  { r with state := .idle, settle := 0, clean := 0, steady := 0, arcs := 0, elapsed := none, inject := false }

/-- CQM takes the pan and path states for one pan: it starts or stops measuring, and writes a quality offset of 0 N
where the pan is still in UP. -/
def Sys.takeMeasuring (y : Sys) (p : PanId) : Sys :=
  let r := y.st.cqm.records.get p
  match r.measuring, y.st.measures p with
  | false, true => y.edit fun s => s.putQuality p r.begin
  | true, false =>
    (y.edit fun s => s.putQuality p r.halt).sendIf (decide ((y.st.pan p).state = .up)) (.qualityOffset p 0)
  | _, _ => y

/-- The same for every pan, at a notice from CHG and at a release (R138, R150). -/
def Sys.takeMeasuringAll (y : Sys) : Sys := allPans.foldl Sys.takeMeasuring y

/-- ICE's notice of a scrape that starts or stops (R142). -/
def Sys.takeScrape (y : Sys) (p : PanId) (running : Bool) : Sys :=
  y.edit fun s => s.putQuality p { s.cqm.records.get p with scrape := running }

/-! ### Samples (R136, R143, R148) -/

/-- One detector sample of a measuring record: a real arc, a pending inject, and the contact time, which the gate lets
into the counters. -/
def QualityRecord.sample (r : QualityRecord) (gate : Gate) (arc contact : Bool) : QualityRecord :=
  let n := (if arc then 1 else 0) + (if r.inject then 1 else 0)
  let r' := { r with arcs := sat16 (r.arcs + n), inject := false }
  match gate with
  | .frozen => r'
  | .running =>
    { r' with
      period := sat16 (r.period + n)
      total := sat32 (r.total + n)
      contact := sat32 (r.contact + (if contact then 1 else 0))
      synthetic := sat16 (r.synthetic + (if r.inject then 1 else 0)) }

/-- The records after a detector sample: every measuring one counts it (R136). -/
def State.sampled (s : State) (arc : Bool) : Vector QualityRecord 4 :=
  Vector.ofFn fun p : PanId =>
    let r := s.cqm.records.get p
    if r.measuring then r.sample s.cqm.gate arc (s.pan p).inputs.contact else r

/-- CQM takes a detector sample (R136). -/
def Sys.takeSample (y : Sys) (arc : Bool) : Sys :=
  y.edit fun s => { s with cqm := { s.cqm with records := s.sampled arc } }

/-! ### Windows (R139 to R142) -/

/-- What an evaluated window leaves: the state with its runs, and whether it was a disturbed window. -/
structure Judged where
  state : QualityState
  clean : Nat
  steady : Nat
  disturbed : Bool
  deriving DecidableEq, Repr

/-- The step of an evaluated window (R140). -/
def QualityRecord.judge (r : QualityRecord) (disturb clean : Nat) : Judged :=
  if disturb ≤ r.arcs then { state := .disturbed, clean := 0, steady := 0, disturbed := true }
  else match r.state with
    | .disturbed =>
      if r.arcs ≤ clean then
        if 5 ≤ r.clean + 1 then { state := .steady, clean := 0, steady := 1, disturbed := false }
        else { state := .disturbed, clean := r.clean + 1, steady := r.steady, disturbed := false }
      else { state := .disturbed, clean := 0, steady := r.steady, disturbed := false }
    | .steady => { state := .steady, clean := r.clean, steady := r.steady + 1, disturbed := false }
    | .settling | .idle => { state := .steady, clean := r.clean, steady := 1, disturbed := false }

/-- The quality offset that an evaluated window writes, where it writes one (R141). -/
def Judged.offset (j : Judged) (scrape : Bool) (now : Nat) : Option Nat :=
  if j.disturbed then (if now < 30 ∧ !scrape then some (now + 10) else none)
  else if 30 ≤ j.steady then (if 0 < now then some (now - 10) else none)
  else none

/-- QUALITY_WINDOW_END of a measuring record: settling or evaluated, and the next window begins (R139, log 5). -/
def Sys.windowEnd (y : Sys) (p : PanId) : Sys :=
  let r := y.st.cqm.records.get p
  if !r.measuring then y
  else if decide (r.state = .settling) && decide (r.settle < 3) then
    y.edit fun s => s.putQuality p { r with settle := r.settle + 1, arcs := 0, elapsed := some 0 }
  else
    let j := r.judge y.st.cqm.disturb y.st.cqm.clean
    let now := (y.st.pan p).quality
    let z := y.edit fun s => s.putQuality p { r with
      state := j.state, clean := j.clean, steady := if 30 ≤ j.steady then 0 else j.steady, arcs := 0,
      elapsed := some 0
      windows := match s.cqm.gate with
        | .running => sat32 (r.windows + 1)
        | .frozen => r.windows }
    (z.sendAll (match j.offset r.scrape now with
      | some n => [.qualityOffset p n]
      | none => [])).sendIf j.disturbed (.disturbed p)

/-! ### The gate, the period and the requests (R144 to R149) -/

/-- The QUALITY report (R146). -/
def Cqm.report (m : Cqm) (kind : QualityKind) : Report :=
  .quality { gate := m.gate, period := m.period, kind := kind,
             records := m.records.map fun r => { state := r.state, period := r.period, total := r.total,
                                                 contact := r.contact, synthetic := r.synthetic } }

/-- The counters of every record at 0 (R144, R145). -/
def Cqm.clear (m : Cqm) : Cqm :=
  { m with records := m.records.map fun r =>
      { r with period := 0, total := 0, contact := 0, windows := 0, synthetic := 0 } }

/-- The arcs of the period of every record at 0, and the clock from 0 (R146, R147). -/
def Cqm.nextPeriod (m : Cqm) : Cqm :=
  { m with records := m.records.map fun r => { r with period := 0 }, clock := 0 }

/-- CQM replaced. -/
def Sys.setCqm (y : Sys) (m : Cqm) : Sys := y.edit fun s => { s with cqm := m }

/-- REPORT_PERIOD_END acts while the gate is RUNNING (R146, log 5). -/
def Sys.periodEnd (y : Sys) : Sys :=
  match y.st.cqm.gate with
  | .frozen => y
  | .running =>
    (if y.st.cqm.reports then y.post (y.st.cqm.report .periodic) else y).setCqm y.st.cqm.nextPeriod

/-- GATE (R144): START is 0 and STOP is 1. A stopped period clock stands where it is (R146). -/
def Sys.gate (y : Sys) (c : Call) (command : Nat) : Sys :=
  let m := y.st.cqm
  if y.st.held then y.answer c .mode
  else if command = 0 then
    (y.answer c (.ok (.gate .running))).setCqm { m.clear with gate := .running, clock := 0 }
  else if command = 1 then
    let z := y.answer c (.ok (.gate .frozen))
    match m.gate with
    | .frozen => z
    | .running => (if m.reports then z.post (m.report .closing) else z).setCqm { m with gate := .frozen }
  else y.refuse c .outOfRange

/-- RESET_COUNTS (R145). -/
def Sys.resetCounts (y : Sys) (c : Call) : Sys :=
  if y.st.held then y.answer c .mode else (y.answer c (.ok .nothing)).setCqm y.st.cqm.clear

/-- A report period by its number of seconds (R147). -/
def periodOf (n : Nat) : Option Period := if n = 1 then some .one else if n = 5 then some .five else none

/-- QUALITY_SETUP (R147): reports are enabled by 0 and disabled by 1. -/
def Sys.qualitySetup (y : Sys) (c : Call) (f : QualitySetupFields) : Sys :=
  if y.st.held then y.answer c .mode
  else match periodOf f.period, [true, false][f.reports]? with
    | some t, some b =>
      if !within 2 250 f.disturb || !decide (f.clean ≤ 249) then y.refuse c .outOfRange
      else if f.disturb ≤ f.clean then y.refuse c .fieldMismatch
      else
        let m := y.st.cqm
        let new := { m with period := t, reports := b, disturb := f.disturb, clean := f.clean }
        (y.answer c (.ok (.qualitySetup t b f.disturb f.clean))).setCqm
          (if decide (m.period ≠ t) && decide (m.gate = .running) then new.nextPeriod else new)
    | _, _ => y.refuse c .outOfRange

/-- INJECT_ARC (R148). -/
def Sys.injectArc (y : Sys) (c : Call) (pan : Nat) : Sys :=
  y.onPan c pan fun p =>
    let r := y.st.cqm.records.get p
    if !r.measuring then y.refuse c .notMeasuring
    else if r.inject then y.answer c .busy
    else (y.answer c (.ok .nothing)).edit fun s => s.putQuality p { r with inject := true }

/-- The reply of READ_QUALITY (R149). -/
def State.cqmView (s : State) : CqmView :=
  { gate := s.cqm.gate, period := s.cqm.period, reports := s.cqm.reports, clock := s.cqm.clock,
    disturb := s.cqm.disturb, clean := s.cqm.clean,
    records := allPans.map fun p =>
      { record := s.cqm.records.get p, measuring := (s.cqm.records.get p).measuring, offset := (s.pan p).quality,
        force := (s.pan p).effective } }

/-- READ_QUALITY (R149). -/
def Sys.readQuality (y : Sys) (c : Call) : Sys := y.answer c (.ok (.quality y.st.cqmView))

end Sys2Proof.Machine
end

