-- ==== Sys2Proof/Machine/FaultControl.lean ====
section
/-! DEFINITION. IFU: interlocks, the Fault Table, escalation and the backfeed watch (chapter 8). -/

namespace Sys2Proof.Machine

/-- IFU replaced. -/
def Sys.setIfu (y : Sys) (i : Ifu) : Sys := y.edit fun s => { s with ifu := i }

/-! ### Raising a fault (R156, R157) -/

/-- The table without the entry of a kind and subject. -/
def Ifu.without (i : Ifu) (k : FaultKind) (j : Subject) : List FaultEntry := i.faults.filter fun e => !e.names k j

/-- The state after the end of a momentary kind's condition: none where the entry is removed (R156, R158). -/
def FaultState.ended : FaultState → Option FaultState
  | .activeUnack => some .clearedUnack
  | .activeAck => none
  | .clearedUnack => some .clearedUnack

/-- An entry as it stands after its raise: a momentary condition ends at once (R156). -/
def FaultEntry.settled (e : FaultEntry) : Option FaultEntry :=
  if e.kind.momentary then e.state.ended.map fun t => { e with state := t } else some e

/-- An entry raised again (R156). -/
def FaultEntry.again (e : FaultEntry) (odometer : Nat) : FaultEntry :=
  { e with
    occurrences := min 255 (e.occurrences + 1)
    last := odometer
    state := match e.state with
      | .clearedUnack => .activeUnack
      | .activeUnack => .activeUnack
      | .activeAck => .activeAck }

/-- What a raise or an end has done to the table. -/
structure FaultStep where
  ifu : Ifu
  outcome : FaultOutcome
  counts : Option FaultCounts
  replaced : Option (FaultKind × Subject)
  deriving DecidableEq, Repr

/-- The counts of an entry (R163). -/
def FaultEntry.counts (e : FaultEntry) : FaultCounts := { occurrences := e.occurrences, first := e.first, last := e.last }

/-- The table `rest` with an entry at its newest end, as the raise leaves it. -/
def Ifu.place (i : Ifu) (rest : List FaultEntry) (e : FaultEntry) (replaced : Option (FaultKind × Subject)) :
    FaultStep :=
  match e.settled with
  | some e' => { ifu := { i with faults := rest ++ [e'] }, outcome := .held e'.state, counts := some e'.counts,
                 replaced := replaced }
  | none => { ifu := { i with faults := rest }, outcome := .removed, counts := none, replaced := replaced }

/-- A raise taken into the table (R156, R157). -/
def Ifu.raise (i : Ifu) (k : FaultKind) (j : Subject) (odometer : Nat) : FaultStep :=
  match i.entry k j with
  | some e => i.place (i.without k j) (e.again odometer) none
  | none =>
    let new := { kind := k, subject := j, state := FaultState.activeUnack, occurrences := 1, first := odometer,
                 last := odometer }
    if i.faults.length < 16 then i.place i.faults new none
    else match takeFirst (fun e => decide (e.state = .clearedUnack)) i.faults with
      | some (old, rest) => i.place rest new (some (old.kind, old.subject))
      | none => { ifu := { i with overflow := sat16 (i.overflow + 1) }, outcome := .notStored, counts := none,
                  replaced := none }

/-- The FAULT report of a step (R163). -/
def FaultStep.report (t : FaultStep) (event : FaultEvent) (k : FaultKind) (j : Subject) (escalated : Bool) : Report :=
  .fault { event := event, kind := k, subject := j, severity := k.severity, outcome := t.outcome, counts := t.counts,
           replaced := t.replaced, overflow := t.ifu.overflow, escalated := escalated }

/-- IFU takes a raise: the escalation test, the table, the report, and then the order to AOS (R156, R160). -/
def Sys.takeRaised (y : Sys) (k : FaultKind) (j : Subject) : Sys :=
  let escalated := y.st.ifu.escalates k j
  let t := y.st.ifu.raise k j y.st.marker.odometer
  ((y.setIfu t.ifu).post (t.report .raised k j escalated)).sendIf escalated (.safeOrder .escalation)

/-! ### End and acknowledgement (R158, R159) -/

/-- The entries with that of a kind and subject CLEARED_UNACK. -/
def clearEntry (k : FaultKind) (j : Subject) (l : List FaultEntry) : List FaultEntry :=
  l.map fun x => if x.names k j then { x with state := .clearedUnack } else x

/-- A condition's end at the table: none where it changes nothing (R158). -/
def Ifu.endCondition (i : Ifu) (k : FaultKind) (j : Subject) : Option FaultStep :=
  match i.entry k j with
  | none => none
  | some e => match e.state with
    | .activeAck => some { ifu := { i with faults := i.without k j }, outcome := .removed, counts := none,
                           replaced := none }
    | .activeUnack =>
      some { ifu := { i with faults := clearEntry k j i.faults },
             outcome := .held .clearedUnack, counts := some e.counts, replaced := none }
    | .clearedUnack => none

/-- IFU takes a condition's end (R158). -/
def Sys.takeEnded (y : Sys) (k : FaultKind) (j : Subject) : Sys :=
  match y.st.ifu.endCondition k j with
  | some t => (y.setIfu t.ifu).post (t.report .ended k j false)
  | none => y

/-- The state of an entry after an acknowledgement: none where it is removed (R159). -/
def FaultState.acknowledged : FaultState → Option FaultState
  | .activeUnack => some .activeAck
  | .activeAck => some .activeAck
  | .clearedUnack => none

/-- The entries after an acknowledgement of those that `ok` names (R159). -/
def acknowledge (ok : FaultEntry → Bool) (l : List FaultEntry) : List FaultEntry :=
  l.filterMap fun e => if ok e then e.state.acknowledged.map fun t => { e with state := t } else some e

/-- How many entries are in a state. -/
def countState (l : List FaultEntry) (t : FaultState) : Nat := (l.filter fun e => decide (e.state = t)).length

/-- ACK_FAULT (R159). -/
def Sys.ackFault (y : Sys) (c : Call) (f : AckFields) : Sys :=
  let i := y.st.ifu
  match f with
  | .all =>
    (y.answer c (.ok (.acknowledgedAll (countState i.faults .activeUnack) (countState i.faults .clearedUnack)))).setIfu
      { i with faults := acknowledge (fun _ => true) i.faults }
  | .one kind subject =>
    match FaultKind.all[kind]?, subjectOf subject with
    | some k, some j =>
      if !k.fits j then y.refuse c .outOfRange
      else match i.entry k j with
        | none => y.refuse c .noEntry
        | some e =>
          let outcome : FaultOutcome := match e.state.acknowledged with
            | some t => .held t
            | none => .removed
          (y.answer c (.ok (.acknowledged outcome))).setIfu
            { i with faults := acknowledge (fun x => x.names k j) i.faults }
    | _, _ => y.refuse c .outOfRange

/-- READ_FAULTS (R164). -/
def Sys.readFaults (y : Sys) (c : Call) : Sys :=
  let i := y.st.ifu
  y.answer c (.ok (.faults { faults := i.faults, overflow := i.overflow, earthed := i.earthed, airLow := i.airLow,
                             watch := i.watch, backfeed := i.backfeed }))

/-! ### Interlocks (R152, R153) -/

/-- A change of an interlock input is taken in every load state; an earthing change is handed to CHG once loading has
ended. -/
def Sys.takeInterlock (y : Sys) (k : InterlockInput) (level : Bool) : Sys :=
  match k with
  | .airSupply => y.setIfu { y.st.ifu with airLow := level }
  | .earthing =>
    (y.setIfu { y.st.ifu with earthed := level }).sendIf (y.st.loaded && decide (y.st.ifu.earthed ≠ level)) .earthingMoved

/-! ### The backfeed watch (R161) -/

/-- The watch is sampled: outside a load, in RUN and SAFE. -/
def State.watchSampled (s : State) : Bool :=
  s.loaded && (decide (s.outputs.mode = .run) || decide (s.outputs.mode = .safe))

/-- The backfeed condition holds. -/
def State.backfeedCondition (s : State) : Bool := decide (s.sense.record ≠ .dead) && s.allDown

/-- The watch takes a state. -/
def Sys.setWatch (y : Sys) (w : Watch) : Sys := y.setIfu { y.st.ifu with watch := w }

/-- ROOF_BACKFEED is raised, and the watch is PRESENT, with whether an entry holds the raise (R161, R162). -/
def Sys.raiseBackfeed (y : Sys) : Sys :=
  let z := y.takeRaised .roofBackfeed .none
  z.setWatch (.present (z.st.ifu.entry .roofBackfeed .none).isSome)

/-- BACKFEED_WATCH_SAMPLE (R161, log 22). -/
def Sys.sampleWatch (y : Sys) : Sys :=
  if !y.st.watchSampled then y
  else match y.st.ifu.watch with
    | .quiet => if y.st.backfeedCondition then y.setWatch (.timing 2000) else y
    | .timing n =>
      if !y.st.backfeedCondition then y.setWatch .quiet
      else if 0 < n then y.setWatch (.timing (n - 100))
      else y.raiseBackfeed
    | .present _ =>
      if y.st.sense.record = .dead then (y.setWatch .quiet).takeEnded .roofBackfeed .none else y

/-- On entry to CLAMP or DRIVE the watch becomes QUIET and a standing condition ends (R161). -/
def Sys.quietWatch (y : Sys) : Sys := (y.setWatch .quiet).send (.ended .roofBackfeed .none)

/-! ### The end of a warm restart (R166) -/

/-- The conditions that IFU ends when a warm restart's load ends, in the order of their ENDED reports: as R166 lists them,
and those of pans pan by pan (log 54). -/
def State.curedByRestart (s : State) : List (FaultKind × Subject) :=
  [(.roofBackfeed, .none), (.selectorTimeout, .path)]
  ++ (if s.lines.breakerClosed then [] else [(.breakerStuckClosed, .path)])
  ++ allPans.flatMap fun p =>
    (if (s.pan p).state = .tripped then [] else [(FaultKind.stripBreach, Subject.pan p), (.airLoss, .pan p)])
    ++ (if (s.pan p).state.lowered then [(FaultKind.lowerTimeout, Subject.pan p)] else [])

/-- IFU ends them. -/
def Sys.takeIfuStart (y : Sys) : Sys := y.st.curedByRestart.foldl (fun y c => y.takeEnded c.1 c.2) y

end Sys2Proof.Machine
end

