-- ==== Sys2Proof/Machine/OutputControl.lean ====
section
/-! DEFINITION. AOS: output modes, preload, SAFE and the maintenance drive (chapter 9). -/

namespace Sys2Proof.Machine

/-- AOS takes a mode and a drive-exit timer, and posts its OUTPUT_MODE report (R180). -/
def Sys.setMode (y : Sys) (mode : OutputMode) (timer : Option Nat) (cause : ModeCause) : Sys :=
  let o := { y.st.outputs with mode := mode, exitTimer := timer }
  (y.edit fun s => { s with outputs := o }).post
    (.outputMode { mode := mode, previous := y.st.outputs.mode, timer := timer.isSome, cause := cause,
                   bc := o.driven.bc, bt := o.driven.bt, sd := o.driven.sd })

/-- The notices of SAFE entry (R174). -/
def safeNotices : List Notice := [.panSafe, .pathSafe, .modeMoved .safe]

/-- The notices that release the held jobs (R179). -/
def releaseNotices : List Notice := [.panResume, .pathResume, .iceResume, .cqmResume]

/-- AOS enters SAFE; from DRIVE it releases the held jobs with the notice (R174, R175). -/
def Sys.enterSafe (y : Sys) (cause : ModeCause) : Sys :=
  match y.st.outputs.mode with
  | .safe => y
  | .run | .clamp => (y.setMode .safe none cause).sendAll safeNotices
  | .drive => (y.setMode .safe none cause).sendAll (releaseNotices ++ safeNotices)

/-- The first entry test of R171 that fails, with its detail. -/
def State.entryRefusal (s : State) (clamp : Bool) : Option Detail :=
  if s.path.state ≠ .isolated then some .path
  else if !s.allDown then some .pans
  else if clamp && s.outputs.preload.bc then some .bcPreload
  else none

/-- AOS enters RUN from SAFE or CLAMP (R170, R133). -/
def Sys.enterRun (y : Sys) : Sys := (y.setMode .run none .request).send (.modeMoved .run)

/-- AOS enters CLAMP (R171, R161). That the end of ROOF_BACKFEED is reported behind the mode is log 57. -/
def Sys.enterClamp (y : Sys) : Sys := (y.setMode .clamp none .request).quietWatch.send (.modeMoved .clamp)

/-- AOS enters DRIVE: ICE makes its evaluation at 0.0 kW, and the jobs are held (R176, R161). That the end of ROOF_BACKFEED
is reported behind the mode and behind ICE's reports is log 57. -/
def Sys.enterDrive (y : Sys) : Sys := (y.setMode .drive none .request).iceDrive.quietWatch

/-- The drive-exit timer starts (R177). -/
def Sys.startExitTimer (y : Sys) : Sys := y.setMode .drive (some 2000) .request

/-- The OK reply of OUTPUT_MODE (R170). -/
def Sys.answerMode (y : Sys) (c : Call) (mode : OutputMode) (timer : Bool) : Sys := y.answer c (.ok (.mode mode timer))

/-- A request for CLAMP or DRIVE, under the entry test (R171). -/
def Sys.enterTested (y : Sys) (c : Call) (mode : OutputMode) (enter : Sys → Sys) : Sys :=
  match y.st.entryRefusal (decide (mode = .clamp)) with
  | some d => y.answer c (.interlock d)
  | none => enter (y.answerMode c mode false)

/-- OUTPUT_MODE (R170). That a value other than the four is refused while the drive-exit timer runs too, ahead of the MODE
of R177, is log 58. -/
def Sys.outputMode (y : Sys) (c : Call) (n : Nat) : Sys :=
  match OutputMode.all[n]? with
  | none => y.refuse c .outOfRange
  | some asked =>
    if y.st.outputs.exitTimer.isSome then y.answer c .mode
    else match y.st.outputs.mode, asked with
      | .run, .run | .clamp, .clamp | .safe, .safe | .drive, .drive => y.answerMode c asked false
      | .run, .clamp => y.enterTested c .clamp Sys.enterClamp
      | .run, .drive | .clamp, .drive => y.enterTested c .drive Sys.enterDrive
      | .run, .safe | .clamp, .safe | .drive, .safe => (y.answerMode c .safe false).enterSafe .request
      | .clamp, .run | .safe, .run => (y.answerMode c .run false).enterRun
      | .drive, .run => (y.answerMode c .drive true).startExitTimer
      | .safe, .clamp | .safe, .drive | .drive, .clamp => y.answer c .mode

/-- START (R177). -/
def Sys.startRequest (y : Sys) (c : Call) : Sys :=
  match y.st.outputs.exitTimer with
  | some _ => ((y.answer c (.ok .nothing)).setMode .run none .start).sendAll releaseNotices
  | none => y.refuse c .notHeld

/-- PRELOAD (R172). -/
def Sys.preload (y : Sys) (c : Call) (l : List PreloadItem) : Sys :=
  match y.st.outputs.preload.writeAll l with
  | none => y.refuse c .outOfRange
  | some new =>
    if !distinctChannels l then y.refuse c .fieldMismatch
    else if decide (y.st.outputs.mode = .clamp) && setsBreaker l then y.answer c (.interlock .bcPreload)
    else (y.edit fun s => { s with outputs := { s.outputs with preload := new } }).answer c (.ok (.preload new))

/-- The feedback values, the input levels of the channels' lines (R167). -/
def Lines.feedback (l : Lines) : ChannelFeedback :=
  { hz := l.contactors, bc := l.breakerClosed, bt := l.breakerClosed, sd := l.selector }

/-- The reply of SAMPLE (R173). -/
def State.sampleView (s : State) : SampleView :=
  { mode := s.outputs.mode, exitTimer := s.outputs.exitTimer, commanded := s.outputs.commanded,
    preload := s.outputs.preload, safe := Channels.safe, driven := s.outputs.driven, feedback := s.lines.feedback,
    lines := s.lines }

/-- SAMPLE (R173). -/
def Sys.sample (y : Sys) (c : Call) : Sys := y.answer c (.ok (.sample y.st.sampleView))

end Sys2Proof.Machine
end

