-- ==== Sys2Proof/Machine/Image.lean ====
section
/-! DEFINITION. The configuration image: its words, its sections, its validity, and the records it holds (R199 to
R202). -/

namespace Sys2Proof.Machine

/-- A word of the flash: that of the image, or what the flash holds past it (R199, log 25). -/
def imageWord (image : List Half) (n : Nat) : Nat := (image.getD n (Config.beyondImage n)).toNat

/-- The content words of the section at a pointer; none where the section is absent (R200). -/
def sectionAt (image : List Half) (pointer : Nat) : Option (List Nat) :=
  if pointer < 32 || 4095 < pointer then none
  else
    let n := imageWord image pointer
    if n = 0 || n = 0xFFFF || 4095 < pointer + n then none
    else some ((List.range n).map fun k => imageWord image (pointer + 1 + k))

/-- The five sections of an image, in the order of their pointers (R199). -/
structure Sections where
  descriptor : Option (List Nat)
  pan : Option (List Nat)
  zone : Option (List Nat)
  marker : Option (List Nat)
  timing : Option (List Nat)
  deriving DecidableEq, Repr

/-- The sections of an image. -/
def sectionsOf (image : List Half) : Sections :=
  { descriptor := sectionAt image (imageWord image 2), pan := sectionAt image (imageWord image 3),
    zone := sectionAt image (imageWord image 4), marker := sectionAt image (imageWord image 5),
    timing := sectionAt image (imageWord image 6) }

/-- Sections that are all absent. -/
def Sections.absent : Sections := { descriptor := none, pan := none, zone := none, marker := none, timing := none }

/-- The sections as a list, in their order. -/
def Sections.all (t : Sections) : List (Option (List Nat)) := [t.descriptor, t.pan, t.zone, t.marker, t.timing]

/-- The sum of the header and of every content word, carries discarded (R202). -/
def imageSum (image : List Half) : Nat :=
  (((List.range 32).map (imageWord image)).sum + ((sectionsOf image).all.map fun c => (c.getD []).sum).sum) % 65536

/-- Why an image is not valid (R202). -/
def imageFault (image : List Half) : Option ImageCause :=
  if imageWord image 0 ≠ 0x5A17 then some .badSignature
  else if imageSum image ≠ 0xA55A then some .badChecksum
  else none

/-- What a load has read: the sections, and either a version or the cause of the defaults (R202). -/
structure Reading where
  sections : Sections
  version : Option Half
  why : Option ImageCause
  deriving DecidableEq, Repr

/-- A load that gives defaults. -/
def Reading.defaults (why : ImageCause) : Reading := { sections := Sections.absent, version := none, why := some why }

/-- A load that has read an image. -/
def readImage (image : List Half) : Reading :=
  match imageFault image with
  | some why => Reading.defaults why
  | none => { sections := sectionsOf image, version := some (image.getD 1 (Config.beyondImage 1)), why := none }

/-! ### Records (R201) -/

/-- The whole records of `n` words of a section; words after the last are ignored. -/
def recordsOf (n : Nat) : Nat → List Nat → List (List Nat)
  | 0, _ => []
  | k + 1, l => if l.length < n then [] else l.take n :: recordsOf n k (l.drop n)

/-- The records of a section's content. -/
def records (n : Nat) (content : Option (List Nat)) : List (List Nat) :=
  recordsOf n (content.getD []).length (content.getD [])

/-- A word that may be marked absent. -/
def wordOrAbsent (n : Nat) : Option Nat := if n = 0xFFFF then none else some n

/-- The descriptor that a record's fields spell, where they pass the checks of R3. -/
def descriptorOf : List Nat → Option Descriptor
  | [kind, nominal, frequency, low, high, tolerance, strip, force, raised, selector, breaker, budget, confirm,
      deviation, neutral] =>
    match checkDescriptor { kind := kind, nominal := nominal, frequency := wordOrAbsent frequency, bandLow := low,
                            bandHigh := high, tolerance := wordOrAbsent tolerance, strip := strip, force := force,
                            maxRaised := raised, selector := selector, breaker := breaker, budget := budget,
                            confirm := confirm, deviation := deviation, neutral := neutral } with
    | .ok d => some d
    | .error _ => none
  | _ => none

/-- The table of the Descriptor section (R7, R201). -/
def descriptorsOf (content : Option (List Nat)) : Vector (Option Descriptor) 8 :=
  (records 16 content).foldl (fun v r => match r with
    | i :: l => match systemOf i, descriptorOf l with
      | some s, some d => put v s (some d)
      | _, _ => v
    | [] => v) (.replicate 8 none)

/-- A pan as the image gives it (R59, R201). -/
structure PanSettings where
  fitted : Bool
  strip : StripClass
  rank : Nat
  profile : Profile
  deriving DecidableEq, Repr

/-- A pan not named in the image; R59 gives strip class A to P1 and P2, and P3 and P4, which are unfitted, have it too
(log 3). -/
def PanSettings.default (p : PanId) : PanSettings :=
  { fitted := decide (p.val < 2), strip := .a, rank := p.val + 1, profile := Profile.idle }

/-- The pan of a record of the Pan section. The force target and raise rate words of an initial profile that is not explicit
are disregarded, whatever they are (log 61). -/
def panRecord : List Nat → Option (PanId × PanSettings)
  | [pan, fitted, strip, rank, system, explicit, force, rate, policy] =>
    match panOf pan, yesNo[fitted]?, StripClass.all[strip]? with
    | some p, some f, some c =>
      if within 1 4 rank then
        some (p, { fitted := f, strip := c, rank := rank,
                   profile := (profileOf system explicit force rate policy).getD Profile.idle })
      else none
    | _, _, _ => none
  | _ => none

/-- The pans of the Pan section (R59, R201). -/
def pansOf (content : Option (List Nat)) : Vector PanSettings 4 :=
  (records 9 (content.map (List.drop 1))).foldl (fun v r => match panRecord r with
    | some (p, g) => put v p g
    | none => v) (Vector.ofFn PanSettings.default)

/-- The pass-only word of the Pan section (R20, R201). -/
def passOnlyOf (content : Option (List Nat)) : Bool :=
  match content with
  | some (n :: _) => decide (n = 1)
  | _ => false

/-- The location of a zone (R111). The pan or group word of a SELECTOR or a BREAKER is disregarded (log 60). -/
def locationOf (kind place : Nat) : Option ZoneLocation :=
  match kind with
  | 0 => (panOf place).map .panHead
  | 1 => (panOf place).map .insulator
  | 2 => some .selector
  | 3 => some .breaker
  | _ => none

/-- The zone that a record's words spell (R111, R201); one that fails a test is unfitted, and then has the location, rated
power and priority of Zone.reset, its own words dropped, those in range too (log 52). -/
def zoneFields (fitted kind place rated priority mode : Nat) : Zone :=
  let m := (ZoneMode.all[mode]?).getD .auto
  match locationOf kind place with
  | some l =>
    if within 5 80 rated && decide (priority ≤ 7) then
      { Zone.reset with fitted := decide (fitted = 1), location := l, rated := rated, priority := priority, mode := m }
    else { Zone.reset with mode := m }
  | none => { Zone.reset with mode := m }

/-- A zone record. -/
def zoneRecord : List Nat → Option (ZoneId × Zone)
  | [zone, fitted, kind, place, rated, priority, mode] =>
    (zoneOf zone).map fun z => (z, zoneFields fitted kind place rated priority mode)
  | _ => none

/-- A zone at a pan's head, with another fitted one of a lower index at the same head, is taken as unfitted (R111). -/
def secondHead (zones : Vector Zone 12) (z : ZoneId) : Bool :=
  match (zones.get z).location with
  | .panHead p => allZones.any fun i =>
      decide (i < z) && (zones.get i).fitted && decide ((zones.get i).location = .panHead p)
  | .insulator _ | .selector | .breaker => false

/-- The zones of the Zone section (R111, R201). -/
def zonesOf (content : Option (List Nat)) : Vector Zone 12 :=
  let v := (records 7 content).foldl (fun v r => match zoneRecord r with
    | some (z, g) => put v z g
    | none => v) (.replicate 12 Zone.reset)
  Vector.ofFn fun z : ZoneId =>
    let r := v.get z
    if r.fitted && secondHead v z then { r with fitted := false } else r

/-- What a triple of the Marker Map section gives its code: none for UNUSED (R44). -/
def mappedOf (kind parameter : Nat) : Option Announced :=
  match announcedOf kind (wordOrAbsent parameter) with
  | .ok a => some a
  | .error _ => none

/-- The map of the Marker Map section (R44, R201). -/
def mapOf (content : Option (List Nat)) : Vector (Option Announced) 64 :=
  (records 3 content).foldl (fun v r => match r with
    | [code, kind, parameter] => if h : code < 64 then put v ⟨code, h⟩ (mappedOf kind parameter) else v
    | _ => v) (.replicate 64 none)

/-- The value of a Timing item: the latest record that names it (R201). -/
def timingItem (content : Option (List Nat)) (n : Nat) : Option Nat :=
  (records 2 content).foldl (fun a r => match r with
    | [item, v] => if item = n then some v else a
    | _ => a) none

/-- A Timing item from `lo` to `hi`, or its default (R201). -/
def timing (content : Option (List Nat)) (n lo hi default : Nat) : Nat :=
  match timingItem content n with
  | some v => if within lo hi v then v else default
  | none => default

/-- The lead times (R49, items 2 to 7). -/
def leadsOf (c : Option (List Nat)) : LeadTimes :=
  { systemAhead := timing c 2 0 200 80, neutralAhead := timing c 3 0 200 10, lowerZone := timing c 4 0 200 80,
    lowerZoneEnd := timing c 5 0 200 0, icePermit := timing c 6 0 200 0, iceForbid := timing c 7 0 200 0 }

/-- The pan timers in ms (R62, items 8 to 15). -/
def panTimesOf (c : Option (List Nat)) : PanTimes :=
  { nominalNormal := timing c 8 10 300 50 * 100, nominalSlow := timing c 9 10 300 80 * 100,
    raiseNormal := timing c 10 10 300 80 * 100, raiseSlow := timing c 11 10 300 120 * 100,
    lower := timing c 12 10 200 60 * 100, drop := timing c 13 5 100 30 * 100, dipPulse := timing c 14 100 2000 600,
    dipRegain := timing c 15 5 100 30 * 100 }

/-- The path timers in ms (R85, items 16 to 22). -/
def pathTimesOf (c : Option (List Nat)) : PathTimes :=
  { selector := timing c 16 10 200 30 * 100, closeAc := timing c 17 50 1000 200, closeDc := timing c 18 50 1000 200,
    openAc := timing c 19 20 1000 100, openDc := timing c 20 20 1000 100, awaitLine := timing c 21 5 120 30 * 1000,
    lossCoast := timing c 22 1 60 10 * 1000 }

/-- The icing temperature, signed tenths of a degree (R112, item 23). -/
def icingOf (c : Option (List Nat)) : Int :=
  match timingItem c 23 with
  | some v =>
    let t := (BitVec.ofNat 16 v).toInt
    if decide (-200 ≤ t) && decide (t ≤ 100) then t else 10
  | none => 10

/-- The auto changeover setting (R110, item 26). -/
def autoOf (c : Option (List Nat)) : Bool := decide (timing c 26 0 1 1 = 1)

end Sys2Proof.Machine
end

