-- ==== Sys2Proof/Machine/Startup.lean ====
section
/-! DEFINITION. CIL: power-on, the reset line, warm restarts and the end of a load (chapter 11), with the start-up rules
of the blocks (R21, R22, R38, R57, R81, R82, R110, R135, R151, R165, R166, R181, R195, R196). -/

namespace Sys2Proof.Machine

/-! ### Cold starts (R203) -/

/-- The controller as a cold start leaves it, its lines as they stand: every block at its cold-start values. -/
def State.cold (s : State) (loader : Loader) : State :=
  { State.reset with
    lines := s.lines
    loader := loader
    ifu := { Ifu.reset with earthed := s.lines.earthClosed, airLow := s.lines.airLow }
    order := s.order
    pending := s.pending }

/-- POWER_ON: the load begins, unless the reset line is asserted. -/
def State.powerOn (s : State) : State :=
  s.cold { Loader.reset with state := if s.lines.resetAsserted then .idle else .loading }

/-- The level of the reset line. -/
def State.setResetLine (s : State) (asserted : Bool) : State :=
  { s with lines := { s.lines with resetAsserted := asserted } }

/-- RESET_LINE_ASSERTED: a load in progress is abandoned, and the blocks take their cold-start values. The image status
and version stay those of the latest load that ended (R193, log 34). -/
def State.resetAsserted (s : State) : State :=
  (s.setResetLine true).cold
    { Loader.reset with state := .idle, cause := .resetLine, image := s.loader.image, version := s.loader.version }

/-- RESET_LINE_RELEASED: in IDLE a cold start's load begins. -/
def State.resetReleased (s : State) : State :=
  let s := s.setResetLine false
  match s.loader.state with
  | .idle => { s with loader := { s.loader with state := .loading } }
  | .loading | .doneValid | .doneDefaults => s

/-! ### Warm restarts (R195, R205) -/

/-- The pans whose mark is set. -/
def State.markedPans (s : State) : List PanId := allPans.filter fun p => s.store.marks.get p

/-- A pending pan goes back to its in-force profile, ABORTED (R22). -/
def State.abortPan (s : State) (p : PanId) : State :=
  { s with store := { s.store.setStatus p .aborted with active := put s.store.active p (s.pan p).inForce } }

/-- MKR at a warm restart (R57). -/
def Marker.restarted (m : Marker) : Marker := { m with history := [], declared := none, queue := [], nextId := 1 }

/-- ICE at a warm restart (R135); a zone in FAULTED leaves it when the load ends, with the end of its condition. -/
def Ice.restarted (i : Ice) : Ice :=
  { i with programs := [], permit := false
           zones := i.zones.map fun z =>
             { z with state := if z.state = .faulted then .faulted else .off, demand := .none, check := .agree } }

/-- CQM at a warm restart (R151). That a stopped period clock reads 0 afterwards is log 59. -/
def Cqm.restarted (m : Cqm) : Cqm :=
  { m with clock := 0, records := m.records.map fun r => { r.halt with scrape := false } }

/-- The jobs at a warm restart: queues, programs and the path are emptied, pending profiles are aborted, and the pans
stand as their sensors have them, with no PAN_STATE report (R22, R38, R57, R82, R110, R135, R151, R166, log 30, log 67). -/
def State.restarted (s : State) : State :=
  let t := s.markedPans.foldl State.abortPan s
  { t with
    sense := Sense.reset
    marker := t.marker.restarted
    pans := Vector.ofFn fun p : PanId => (t.pan p).started (t.lines.pans.get p) none
    path := { Path.reset with auto := t.path.auto }
    ice := t.ice.restarted
    cqm := t.cqm.restarted
    ifu := { t.ifu with watch := .quiet } }

/-- AOS enters SAFE at the start of a warm restart; a change of mode is reported (R181, R205). -/
def Sys.restartMode (y : Sys) : Sys :=
  match y.st.outputs.mode with
  | .safe => y
  | .run | .clamp | .drive => y.setMode .safe none .startup

/-- A warm restart is ordered: the queue loses its reports, the load begins, and the jobs reset (R195, R205). -/
def Sys.warmRestart (y : Sys) (cause : StartCause) : Sys :=
  (y.edit fun s =>
    { s with
      link := s.link.flush
      loader := { s.loader with
        state := .loading, kind := .warm, cause := cause, removedAnnouncements := s.marker.queue.length
        removedPrograms := s.ice.programs.length, abortedPans := s.markedPans } }).restartMode.edit State.restarted

/-- RESTART (R195). -/
def Sys.restart (y : Sys) (c : Call) : Sys := (y.answer c (.ok .nothing)).warmRestart .restart

/-- DRIVE_EXIT_EXPIRY acts while the drive-exit timer runs: the report, the fault, and the warm restart (R177, R178,
R180, log 33). -/
def Sys.driveExit (y : Sys) : Sys :=
  match y.st.outputs.exitTimer with
  | some _ =>
    ((y.post (.outputMode { mode := .drive, previous := .drive, timer := false, cause := .expiry,
                            bc := Channels.safe.bc, bt := Channels.safe.bt, sd := Channels.safe.sd })).takeRaised
      .driveExitExpired .none).warmRestart .driveExitExpiry
  | none => y

/-! ### The end of a load (R201, R203, R204) -/

/-- A pan as a cold start's load sets it up (R21, R59, R81). -/
def PanSettings.pan (g : PanSettings) : Pan :=
  { Pan.reset g.fitted g.rank with strip := g.strip, inForce := g.profile }

/-- What a cold start's load takes from the Pan and Zone sections, and the auto setting (R20, R21, R59, R110, R111). -/
def State.loadCold (s : State) (t : Sections) : State :=
  let pans := pansOf t.pan
  let profiles := pans.map PanSettings.profile
  { s with
    store := { s.store with staged0 := profiles, staged1 := profiles, active := profiles,
                            passOnly := passOnlyOf t.pan }
    pans := pans.map PanSettings.pan
    path := { s.path with auto := autoOf t.timing }
    ice := { s.ice with zones := zonesOf t.zone } }

/-- What every load takes: descriptors, map and timing (R7, R57, R62, R85, R112, R114, R124). -/
def State.loadTables (s : State) (t : Sections) : State :=
  { s with
    store := { s.store with descriptors := descriptorsOf t.descriptor }
    marker := { s.marker with perPulse := timing t.timing 1 5 200 100, leads := leadsOf t.timing, map := mapOf t.marker }
    panTimes := panTimesOf t.timing
    pathTimes := pathTimesOf t.timing
    ice := { s.ice with icing := icingOf t.timing, standby := timing t.timing 24 0 400 20,
                        scrapeLength := timing t.timing 25 100 50000 5000 } }

/-- The pan serves no system (R21, R22). -/
def State.dropSystem (s : State) (p : PanId) : State :=
  { s with store := { s.store with active := put s.store.active p Profile.idle } }.writeInForce p Profile.idle

/-- PRF's check of a pan after the descriptors are loaded: a system that is empty or does not admit the strip is
replaced by S0; a warm restart gives a config status with it (R21, R22). -/
def State.checkPan (kind : StartKind) (s : State) (p : PanId) : State :=
  match s.applyRefusal p (s.pan p).inForce, kind with
  | none, _ => s
  | some _, .cold => s.dropSystem p
  | some c, .warm => { s.dropSystem p with store := (s.dropSystem p).store.setStatus p c }

/-- PAN recomputes a pan's force base (R63). -/
def State.recomputeBase (s : State) (p : PanId) : State := s.writeInForce p (s.pan p).inForce

/-- The content of a load handed to the blocks, with PRF's check (R203). -/
def State.load (s : State) (t : Sections) : State :=
  let loaded := match s.loader.kind with
    | .cold => (s.loadCold t).loadTables t
    | .warm => s.loadTables t
  allPans.foldl State.recomputeBase (allPans.foldl (State.checkPan s.loader.kind) loaded)

/-- Whether an image that was read holds a section (R204). -/
def SectionStatus.held (content : Option (List Nat)) : SectionStatus :=
  if content.isSome then .present else .absent

/-- A section that a load has read (R204). -/
def SectionReport.of (valid : Bool) (content : Option (List Nat)) : SectionReport :=
  { read := true, status := some (if valid then .held content else .defaults) }

/-- A section that a warm restart's load does not take: present or absent as the image has it, and nothing where the
image gives none, since no defaults replace what is kept (R204, R205; log 26). -/
def SectionReport.unread (valid : Bool) (content : Option (List Nat)) : SectionReport :=
  { read := false, status := if valid then some (.held content) else none }

/-- The five sections of a load (R204). -/
def sectionReports (kind : StartKind) (r : Reading) : List SectionReport :=
  let valid := r.why.isNone
  match kind with
  | .cold => r.sections.all.map (SectionReport.of valid)
  | .warm => [.of valid r.sections.descriptor, .unread valid r.sections.pan, .unread valid r.sections.zone,
              .of valid r.sections.marker, .of valid r.sections.timing]

/-- The START_REPORT of a load (R204). -/
def State.startReport (s : State) (r : Reading) : StartReport :=
  { kind := s.loader.kind, cause := s.loader.cause, image := if r.why.isNone then .valid else .defaults, why := r.why,
    version := r.version, sections := sectionReports s.loader.kind r,
    removedAnnouncements := s.loader.removedAnnouncements, removedPrograms := s.loader.removedPrograms,
    aborted := s.loader.abortedPans, odometer := s.marker.odometer, faults := s.ifu.faults.length,
    tripActive := s.ifu.tripActive }

/-- The load state, image status and version after a load (R202, R203). -/
def Loader.finished (l : Loader) (r : Reading) : Loader :=
  { l with
    state := if r.why.isNone then .doneValid else .doneDefaults
    image := some (if r.why.isNone then .valid else .defaults)
    version := r.version }

/-- Zones that were FAULTED at a warm restart go OFF, and each has its condition ended (R135). -/
def Sys.clearFaulted (y : Sys) : Sys :=
  let faulted := allZones.filter fun z => decide ((y.st.ice.zones.get z).state = .faulted)
  (y.edit fun s => { s with ice := { s.ice with zones := s.ice.zones.map fun z => { z with state := .off } } }).sendAll
    (faulted.map fun z => .ended .heaterFeedback (.zone z))

/-- The blocks begin after a load: AOS enters RUN, PAN and CHG start from the lines, and IFU and ICE follow (R81, R82,
R110, R135, R166, R181, R205). The OUTPUT_MODE report of RUN is posted before the owners write, so it shows BC, BT and SD
as they were kept through a warm restart's load (log 55), and it stands ahead of the reports of IFU and ICE (log 63). -/
def Sys.beginBlocks (y : Sys) : Sys :=
  let z := (y.setMode .run none .startup).edit fun s => (s.startPans (some s.panTimes)).startPath
  (z.clearFaulted.edit State.commandHeaters).sendAll
    (noticeIf (decide (y.st.loader.kind = .warm)) .ifuStart ++ [.iceStart])

/-- CONFIG_IMAGE_INVALID is raised where the image gives defaults (R202). -/
def Sys.raiseInvalid (y : Sys) (r : Reading) : Sys :=
  if r.why.isSome then y.takeRaised .configImageInvalid .none else y

/-- The START_REPORT is posted (R188, R204). -/
def Sys.postStart (y : Sys) (r : StartReport) : Sys := y.edit fun s => { s with link := s.link.postStart r }

/-- The end of a load, while one runs (R203, R205). -/
def Sys.finishLoad (y : Sys) (r : Reading) : Sys :=
  match y.st.loader.state with
  | .loading =>
    let z := y.edit fun s => { s with loader := s.loader.finished r }.load r.sections
    ((z.postStart (y.st.startReport r)).raiseInvalid r).beginBlocks
  | .idle | .doneValid | .doneDefaults => y

end Sys2Proof.Machine
end

