-- ==== Sys2Proof/Machine/Cascade.lean ====
section
/-! DEFINITION. How the notices of a step are taken until none is left (00 section 1.4; 95: each step is whole), and
how LNK decides the form of a request (R187). -/

namespace Sys2Proof.Machine

/-- A notice to a job that is held, or has not begun, is discarded (R176, R203). -/
def State.discards (s : State) (n : Notice) : Bool :=
  match n.block with
  | .pan | .chg | .ice | .cqm => !s.jobsRun
  | .prf | .mkr | .ifu | .aos => false

/-- The block of a notice takes it. -/
def Sys.take (y : Sys) (n : Notice) : Sys :=
  match n with
  | .pathRaise p => y.takePathRaise p
  | .pathRelease p => y.takePathRelease p
  | .pathLower p => y.lowerPan p .path
  | .retryMessage p m => y.takeRetryMessage p m
  | .dip p => y.takeDip p
  | .qualityOffset p k => y.takeQualityOffset p k
  | .iceOffset p k => y.takeIceOffset p k
  | .panSafe | .panSafeBehind => y.takePanSafe
  | .panResume => y.takePanResume
  | .panMoved p old new t => y.takePanMoved p old new t
  | .claimAnswer p c => y.takeClaimAnswer p c
  | .wantGone p w => y.takeWantGone p w
  | .pathDue a => y.takePathDue a
  | .recognized i => y.takeRecognized i
  | .lost i => y.takeLost i
  | .lineDead => y.testClosing (.of .line)
  | .odometerMoved => y.takeOdometer
  | .earthingMoved => y.takeEarthing
  | .pathSafe => y.takePathSafe
  | .pathResume => y.takePathResume
  | .raiseOk p t k => y.takeRaiseOk p t k
  | .raiseTimedOut p k => y.takeRaiseTimedOut p k
  | .dipRefused p => y.takeDipRefused p
  | .dipDone p => y.takeDipDone p
  | .dipFailed p => y.takeDipFailed p
  | .dipLeft p => y.takeDipLeft p
  | .retryWithdrawn p => y.takeRetryWithdrawn p
  | .panEnteredUp _ => y.takePanEnteredUp
  | .panLeft p => y.takePanLeft p
  | .pathMoved p => y.takeIcePath p
  | .disturbed p => y.takeDisturbed p
  | .iceDue a => y.takeIceDue a
  | .profileWritten => y.takeProfileWritten
  | .modeMoved m => y.takeIceMode m
  | .iceResume => y.takeIceResume
  | .metres k => y.takeMetres k
  | .iceStart => y.takeIceStart
  | .cqmPan p => y.takeMeasuring p
  | .cqmPath => y.takeMeasuringAll
  | .scrapeMoved p b => y.takeScrape p b
  | .cqmResume => y.takeMeasuringAll
  | .passPoint p => y.takePassPoint p
  | .raised k j => y.takeRaised k j
  | .ended k j => y.takeEnded k j
  | .ifuStart => y.takeIfuStart
  | .safeOrder c => y.enterSafe c
  | .due a => y.takeDue a

/-- Notices taken, at most `k` of them (log 7). -/
def Sys.settleWithin : Nat → Sys → State
  | 0, y => y.st
  | k + 1, y => match choose y.st.order y.todo with
    | none => y.st
    | some (n, order) =>
      let z := { y with st := { y.st with order := order }, todo := withoutLane n.lane y.todo }
      Sys.settleWithin k (if z.st.discards n then z else z.take n)

/-- The most notices that one step takes: more than any event of the manual sends (log 7). -/
abbrev noticeLimit : Nat := 600

/-- Every notice of the step is taken, and ICE's checks follow what stands at its end (R117). -/
def Sys.settle (y : Sys) : State := (y.settleWithin noticeLimit).recheck

/-- A step of a state: its event, and then its notices. -/
def State.run (s : State) (event : Sys → Sys) : State := (event { st := s, todo := [] }).settle

/-- An event that only a job takes, which is held or not yet begun (R176, R203). -/
def State.runJob (s : State) (event : Sys → Sys) : State := if s.jobsRun then s.run event else s

/-- How a request is answered before its owner has it: steps 3 and 4 of R187. `always` says that it is decided while
CIL loads (IDENTIFY and STATUS); `mask` is its pan mask, where it carries one. -/
def Sys.letIn (y : Sys) (c : Call) (always : Bool) (mask : Nat) (owner : Sys → Sys) : Sys :=
  if !always && !y.st.loaded then y.answer c .notReady
  else if 16 ≤ mask then y.refuse c .badPan
  else owner y

/-- A request frame received with a good check: LNK looks for a reply place, decides the frame's form, and hands the
request to its owner (R187). The frame is whole, so the framer is in HUNT; in BREAK no frame is taken (R192, log 8). -/
def Sys.request {α : Type} (y : Sys) (code tag : Byte) (always : Bool) (body : Body α) (mask : α → Nat)
    (owner : Sys → Call → α → Sys) : Sys :=
  match y.st.link.watch with
  | .break_ => y
  | .normal =>
    let y := y.edit fun s => { s with link := { s.link with framer := .hunt } }
    if 4 ≤ y.st.link.replies then y.edit fun s => { s with link := s.link.overrun }
    else
      let c : Call := { code := code, tag := tag }
      match body with
      | .wrongSize => y.refuse c .badLength
      | .fields f => y.letIn c always (mask f) fun y => owner y c f

/-- No pan mask. -/
def noMask {α : Type} (_ : α) : Nat := 0

/-- A step of a request. -/
def State.serve {α : Type} (s : State) (code tag : Byte) (body : Body α) (owner : Sys → Call → α → Sys) : State :=
  s.run fun y => y.request code tag false body noMask owner

/-- A step of a request that carries a pan mask. -/
def State.serveMask {α : Type} (s : State) (code tag : Byte) (body : Body α) (mask : α → Nat)
    (owner : Sys → Call → α → Sys) : State :=
  s.run fun y => y.request code tag false body mask owner

/-- A frame whose type names no request is refused UNKNOWN_TYPE, with its own code (R187 step 1). The type is not read again
here: one that names a request is refused too (log 27). -/
def Sys.unknownType (y : Sys) (type tag : Byte) : Sys :=
  match y.st.link.watch with
  | .break_ => y
  | .normal =>
    let y := y.edit fun s => { s with link := { s.link with framer := .hunt } }
    if 4 ≤ y.st.link.replies then y.edit fun s => { s with link := s.link.overrun }
    else y.refuse { code := type &&& 0x7F, tag := tag } .unknownType

/-! ### IDENTIFY and STATUS (R193, R194) -/

/-- IDENTIFY. -/
def Sys.identify (y : Sys) (c : Call) : Sys :=
  y.answer c (.ok (.identify
    { vendor := Config.vendorCode, part := Config.partCode, issue := Config.designIssue, format := 1,
      load := y.st.loader.state, image := y.st.loader.image, version := y.st.loader.version }))

/-- STATUS: the number of replies counts the reply to this STATUS. -/
def Sys.status (y : Sys) (c : Call) : Sys :=
  let l := y.st.link
  y.answer c (.ok (.status
    { load := y.st.loader.state, kind := y.st.loader.kind, mode := y.st.outputs.mode,
      timer := y.st.outputs.exitTimer.isSome, framer := l.framer.shown, watch := l.watch,
      checkErrors := l.checkErrors, abandoned := l.abandoned, overruns := l.overruns, breaks := l.breaks,
      lost := l.lost, slip := l.slip, replies := l.replies + 1, reports := l.reports,
      faults := y.st.ifu.faults.length, tripActive := y.st.ifu.tripActive }))

/-! ### The receive line (R192) -/

/-- The break watch enters BREAK: the frame in progress is abandoned, the break counted, LINK_BREAK raised and SAFE
ordered. -/
def Sys.linkBreak (y : Sys) : Sys :=
  match y.st.link.watch with
  | .break_ => y
  | .normal =>
    ((y.edit fun s => { s with link :=
      { s.link.abandon with watch := .break_, breaks := sat16 (s.link.breaks + 1) } }).send
        (.raised .linkBreak .none)).send (.safeOrder .linkBreak)

/-- The line returns to its idle level. -/
def Link.breakEnd (l : Link) : Link := { l with watch := .normal, framer := match l.watch with
  | .break_ => .hunt
  | .normal => l.framer }

/-! ### A tick (log 4) -/

/-- A pan timer a millisecond on. -/
def Pan.tick (r : Pan) : Pan :=
  { r with timer := r.timer.map fun t => { t with remaining := t.remaining - 1 }
           rising := if r.state = .rising then min 65535 (r.rising + 1) else r.rising }

/-- A check a millisecond on. -/
def Zone.tick (z : Zone) : Zone :=
  { z with check := match z.check with
      | .running n => .running (n - 1)
      | .agree => .agree
      | .expired => .expired }

/-- A program a millisecond on: the remaining time of a HEAT in RUNNING, and the wait time of a DIP. -/
def Program.tick (g : Program) : Program :=
  { g with
    progress := if decide (g.kind = .heat) && decide (g.state = .running) then g.progress - 1 else g.progress
    wait := g.wait.map fun n => n - 1 }

/-- A quality record a millisecond on. -/
def QualityRecord.tick (r : QualityRecord) : QualityRecord := { r with elapsed := r.elapsed.map fun n => min 999 (n + 1) }

/-- The jobs' timers and clocks a millisecond on. -/
def State.tickJobs (s : State) : State :=
  { s with
    pans := s.pans.map Pan.tick
    path := { s.path with timer := s.path.timer.map fun t => { t with remaining := t.remaining - 1 } }
    ice := { s.ice with zones := s.ice.zones.map Zone.tick, programs := s.ice.programs.map Program.tick }
    cqm := { s.cqm with
      records := s.cqm.records.map QualityRecord.tick
      clock := match s.cqm.gate with
        | .running => min s.cqm.period.ms (s.cqm.clock + 1)
        | .frozen => s.cqm.clock } }

/-- One millisecond passes: the jobs' timers while they run, and the drive-exit timer. -/
def State.tick (s : State) : State :=
  let s := if s.jobsRun then s.tickJobs else s
  { s with outputs := { s.outputs with exitTimer := s.outputs.exitTimer.map fun n => n - 1 } }

end Sys2Proof.Machine
end

