-- ==== Sys2Proof/Machine/Frame.lean ====
section
/-! DEFINITION. The frames of the roof link: the check, the framer, the reading of a request from its bytes (R183 to
R187, R197), and the frames of replies and reports as bytes (R183, R184, R191, R198). Encodings that the manual leaves
open are those of log 9. -/

namespace Sys2Proof.Machine

/-! ### The check (R186) -/

/-- One bit of the check: polynomial 0x1021. -/
def crcBit (c : Half) : Half := if c.msb then (c <<< 1) ^^^ 0x1021 else c <<< 1

/-- One byte of the check, most significant bit first. -/
def crcByte (c : Half) (b : Byte) : Half :=
  (List.range 8).foldl (fun c _ => crcBit c) (c ^^^ (b.zeroExtend 16 <<< 8))

/-- The check of a run of bytes, from the initial value 0xFFFF. -/
def crcOf (l : List Byte) : Half := l.foldl crcByte 0xFFFF

/-- A value of 16 bits as its high byte and its low byte. -/
def halfBytes (h : Half) : List Byte := [(h >>> 8).truncate 8, h.truncate 8]

/-- The check of a frame, high byte first: over the length byte, the type, the tag and the body (R186). -/
def checkBytes (len : Byte) (held : List Byte) : List Byte := halfBytes (crcOf (len :: held))

/-! ### Reading a request (R187, R197) -/

/-- A body that carries no field. -/
def emptyBody : List Byte → Body Unit
  | [] => .fields ()
  | _ => .wrongSize

/-- A body of one byte. -/
def byteBody : List Byte → Body Nat
  | [a] => .fields a.toNat
  | _ => .wrongSize

/-- Two bytes, high byte first. -/
def wide (a b : Byte) : Nat := a.toNat * 256 + b.toNat

/-- Two bytes that may be absent, every bit set (R184). -/
def wideOrAbsent (a b : Byte) : Option Nat := wordOrAbsent (wide a b)

/-- The body of DESCRIBE_SYSTEM: the index alone, or with the fields in the order of the table of R1. -/
def describeBody : List Byte → Body DescribeFields
  | [i] => .fields { index := i.toNat, content := none }
  | [i, kind, v1, v2, f1, f2, low, high, t1, t2, strip, force, raised, selector, breaker, h1, h2, confirm, deviation,
      neutral] =>
    let d : RawDescriptor :=
      { kind := kind.toNat, nominal := wide v1 v2, frequency := wideOrAbsent f1 f2, bandLow := low.toNat,
        bandHigh := high.toNat, tolerance := wideOrAbsent t1 t2, strip := strip.toNat, force := force.toNat,
        maxRaised := raised.toNat, selector := selector.toNat, breaker := breaker.toNat, budget := wide h1 h2,
        confirm := confirm.toNat, deviation := deviation.toNat, neutral := neutral.toNat }
    .fields { index := i.toNat, content := some d }
  | _ => .wrongSize

/-- The body of ANNOUNCE: kind and distance, with a parameter between them where one is given, the system of
SYSTEM_AHEAD (kind 1) in one byte and the length of NEUTRAL_AHEAD (kind 2) in two. A parameter given with another kind
may have either size, since R51 decides such a request by its kind (R184, R187; log 9). -/
def announceBody : List Byte → Body AnnounceFields
  | [k, d1, d2] => .fields { kind := k.toNat, parameter := none, distance := wide d1 d2 }
  | [k, p, d1, d2] =>
    if k = 2 then .wrongSize else .fields { kind := k.toNat, parameter := some p.toNat, distance := wide d1 d2 }
  | [k, p1, p2, d1, d2] =>
    if k = 1 then .wrongSize else .fields { kind := k.toNat, parameter := some (wide p1 p2), distance := wide d1 d2 }
  | _ => .wrongSize

/-- The body of ACK_FAULT: kind and subject, or ALL as the one byte 0xFF (log 9). -/
def ackBody : List Byte → Body AckFields
  | [k] => if k = 0xFF then .fields .all else .wrongSize
  | [k, j] => if k = 0xFF then .wrongSize else .fields (.one k.toNat j.toNat)
  | _ => .wrongSize

/-- The items of PRELOAD: two bytes each. -/
def preloadItems : List Byte → Option (List PreloadItem)
  | [] => some []
  | [_] => none
  | a :: b :: l => (preloadItems l).map fun r => { channel := a.toNat, value := b.toNat } :: r

/-- A list of PRELOAD has 1 to 23 items (R172, R187 step 2). -/
def preloadCount (l : List PreloadItem) : Body (List PreloadItem) :=
  if within 1 23 l.length then .fields l else .wrongSize

/-- The items of a PRELOAD whose frame has been read, with their count judged (R187 step 2). -/
def preloadOf : Body (List PreloadItem) → Body (List PreloadItem)
  | .wrongSize => .wrongSize
  | .fields l => preloadCount l

/-- The body of PRELOAD: a count byte, then that many items. -/
def preloadBody : List Byte → Body (List PreloadItem)
  | [] => .wrongSize
  | n :: l => match preloadItems l with
    | some r => if r.length = n.toNat then preloadCount r else .wrongSize
    | none => .wrongSize

/-- The body of STAGE_PROFILE. -/
def stageBody : List Byte → Body StageFields
  | [set, pan, system, explicit, force, rate, policy] =>
    .fields { set := set.toNat, pan := pan.toNat, system := system.toNat, explicit := explicit.toNat,
              force := force.toNat, rate := rate.toNat, policy := policy.toNat }
  | _ => .wrongSize

/-- The body of APPLY. -/
def applyBody : List Byte → Body ApplyFields
  | [set, mask, mode] => .fields { set := set.toNat, mask := mask.toNat, mode := mode.toNat }
  | _ => .wrongSize

/-- A body of two bytes. -/
def pairBody {α : Type} (make : Nat → Nat → α) : List Byte → Body α
  | [a, b] => .fields (make a.toNat b.toNat)
  | _ => .wrongSize

/-- The body of QUALITY_SETUP. -/
def setupBody : List Byte → Body QualitySetupFields
  | [t, r, d, c] => .fields { period := t.toNat, reports := r.toNat, disturb := d.toNat, clean := c.toNat }
  | _ => .wrongSize

/-- The command of a frame received with a good check: its type, its tag and its body (R197). -/
def frameCommand (type tag : Byte) (body : List Byte) : Instr :=
  match type.toNat with
  | 0x01 => .identify tag (emptyBody body)
  | 0x02 => .status tag (emptyBody body)
  | 0x03 => .restart tag (emptyBody body)
  | 0x08 => .stageProfile tag (stageBody body)
  | 0x09 => .readProfile tag (byteBody body)
  | 0x0A => .apply tag (applyBody body)
  | 0x0B => .describeSystem tag (describeBody body)
  | 0x0C => .readSystem tag (byteBody body)
  | 0x10 => .readLine tag (emptyBody body)
  | 0x14 => .announce tag (announceBody body)
  | 0x15 => .withdraw tag (byteBody body)
  | 0x16 => .readAnnouncements tag (emptyBody body)
  | 0x17 => .markerSetup tag (byteBody body)
  | 0x18 => .readOdometer tag (emptyBody body)
  | 0x1C => .raise tag (byteBody body)
  | 0x1D => .lower tag (byteBody body)
  | 0x1E => .drop tag (byteBody body)
  | 0x1F => .resetTrip tag (byteBody body)
  | 0x20 => .readPan tag (byteBody body)
  | 0x24 => .connect tag (byteBody body)
  | 0x25 => .isolate tag (emptyBody body)
  | 0x26 => .setAuto tag (byteBody body)
  | 0x27 => .clearPath tag (emptyBody body)
  | 0x28 => .readPath tag (emptyBody body)
  | 0x2C => .zoneMode tag (pairBody ZoneModeFields.mk body)
  | 0x2D => .iceLevel tag (pairBody IceLevelFields.mk body)
  | 0x2E => .startProgram tag (pairBody StartProgramFields.mk body)
  | 0x2F => .stopProgram tag (byteBody body)
  | 0x30 => .readIce tag (emptyBody body)
  | 0x34 => .gate tag (byteBody body)
  | 0x35 => .resetCounts tag (emptyBody body)
  | 0x36 => .qualitySetup tag (setupBody body)
  | 0x37 => .injectArc tag (byteBody body)
  | 0x38 => .readQuality tag (emptyBody body)
  | 0x3C => .readFaults tag (emptyBody body)
  | 0x3D => .ackFault tag (ackBody body)
  | 0x40 => .sample tag (emptyBody body)
  | 0x41 => .preload tag (preloadBody body)
  | 0x42 => .outputMode tag (byteBody body)
  | 0x43 => .start tag (emptyBody body)
  | _ => .unknownTypeFrame tag type

/-- The command of the bytes from the type on; a frame has a type and a tag, since its length is at least 2. -/
def heldCommand : List Byte → Option Instr
  | type :: tag :: body => some (frameCommand type tag body)
  | _ => none

/-! ### The framer (R185) -/

/-- What a received byte does: the link after it, and the command of a frame that it completes with a good check. -/
def Link.receive (l : Link) (b : Byte) : Link × Option Instr :=
  match l.watch, l.framer with
  | .break_, _ => (l, none)
  | .normal, .hunt => (if b = 0xD3 then { l with framer := .length } else l, none)
  | .normal, .length =>
    (if within 2 250 b.toNat then { l with framer := .body b.toNat [] } else l.checkError, none)
  | .normal, .body n held =>
    (if n ≤ held.length + 1 then { l with framer := .check (held ++ [b]) none }
     else { l with framer := .body n (held ++ [b]) }, none)
  | .normal, .check held none => ({ l with framer := .check held (some b) }, none)
  | .normal, .check held (some hi) =>
    if checkBytes (BitVec.ofNat 8 held.length) held = [hi, b] then ({ l with framer := .hunt }, heldCommand held)
    else (l.checkError, none)

/-! ### Fields as bytes (R184) -/

/-- One byte. -/
def b1 (n : Nat) : List Byte := [BitVec.ofNat 8 n]

/-- Two bytes, high byte first. -/
def b2 (n : Nat) : List Byte := halfBytes (BitVec.ofNat 16 n)

/-- Four bytes, high byte first: the low 32 bits, also of a coast end that exceeds them (log 37). -/
def b4 (n : Nat) : List Byte := b2 (n / 65536) ++ b2 n

/-- A field that may be absent, `w` bytes wide: every bit set. -/
def orAbsent (w : Nat) (f : Nat → List Byte) : Option Nat → List Byte
  | some n => f n
  | none => List.replicate w 0xFF

/-- A temperature: two bytes, signed. -/
def bTemperature (n : Int) : List Byte := halfBytes (BitVec.ofInt 16 n)

/-- A field of two values. Yes and on are 1, no and off 0; of the other readings and flags, closed, true, breached, low,
wet, asserted and set are 1, and open, false, not breached, OK, dry, released and clear 0, whatever the order in which a
rule names the two (R184 names no such field; log 9). -/
def bBool (b : Bool) : List Byte := b1 (if b then 1 else 0)

/-- A named value: its position in its list. -/
def bName {α : Type} [BEq α] (l : List α) (x : α) : List Byte := b1 (l.idxOf x)

/-- A named value that may be absent. -/
def bNameOr {α : Type} [BEq α] (l : List α) (x : Option α) : List Byte := orAbsent 1 b1 (x.map l.idxOf)

/-- A list: its count, then its items. -/
def bList {α : Type} (f : α → List Byte) (l : List α) : List Byte := b1 l.length ++ l.flatMap f

/-- A system, S0 as 0. -/
def bSystem : Option SysId → List Byte
  | some i => b1 (i.val + 1)
  | none => b1 0

/-- A system that may be absent. -/
def bSystemOr (i : Option SysId) : List Byte := orAbsent 1 b1 (i.map fun i => i.val + 1)

/-- A pan or a zone: its number. -/
def bNumber {n : Nat} (i : Fin n) : List Byte := b1 (i.val + 1)

/-- A pan mask. -/
def bMask (l : List PanId) : List Byte := b1 (l.map fun p => 2 ^ p.val).sum

/-- A fault subject. -/
def bSubject : Subject → List Byte
  | .none => b1 0
  | .pan p => bNumber p
  | .zone z => b1 (0x10 + (z.val + 1))
  | .path => b1 0x20

/-- A profile entry (R8). -/
def bProfile (f : Profile) : List Byte :=
  bSystem f.system ++ bBool f.explicit.isSome ++ orAbsent 1 b1 (f.explicit.map ExplicitForce.force)
    ++ bNameOr RaiseRate.all (f.explicit.map ExplicitForce.rate) ++ bName HeaterPolicy.all f.policy

/-- A descriptor in the order of the table of R1. -/
def bDescriptor (d : Descriptor) : List Byte :=
  bName SupplyKind.all d.kind ++ b2 d.nominal ++ orAbsent 2 b2 d.frequency ++ b1 d.bandLow ++ b1 d.bandHigh
    ++ orAbsent 2 b2 d.tolerance ++ bName StripAdmitted.all d.strip ++ b1 d.force ++ b1 d.maxRaised
    ++ bNumber d.selector ++ bName SupplyKind.all d.breaker ++ b2 d.budget ++ b1 d.confirm ++ b1 d.deviation
    ++ bName NeutralHandling.all d.neutral

/-! ### Named values of replies and reports -/

def ConfigStatus.all : List ConfigStatus :=
  [.idle, .success, .inProgress, .rejectedUnknownSystem, .rejectedStrip, .rejectedRaised, .rejectedPassOnly,
    .rejectedUnfitted, .aborted]

def PanState.all : List PanState := [.down, .rising, .up, .dipping, .falling, .dropping, .tripped]
def Want.all : List Want := [.none, .link, .path]
def Hold.all : List Hold := [.none, .awaiting, .armed]
def TripCause.all : List TripCause := [.stripBreach, .airLoss, .linkDrop]

/-- The place of a timer of R62 in its table, whose first two rows are the nominal raise times; a raise timeout stands
there once for each rate (R184). -/
def PanTimerKind.code (rate : RaiseRate) : PanTimerKind → Nat
  | .raise => match rate with
    | .normal => 2
    | .slow => 3
  | .lower => 4
  | .drop => 5
  | .dipPulse => 6
  | .dipRegain => 7

def PanCause.all : List PanCause :=
  [.request, .path, .ice, .sensor, .timeout, .stripBreach, .airLoss, .linkDrop, .safe, .retry, .reset]

def PathTimerKind.all : List PathTimerKind := [.selector, .close, .openFeedback, .awaitLine, .lossCoast]

def PathCause.all : List PathCause :=
  [.request, .announcement, .line, .pan, .earth, .feedback, .breakerOpened, .timeout, .odometer, .safe, .commit]

def ZoneState.all : List ZoneState := [.off, .waiting, .on, .shed, .faulted]
def Demand.all : List Demand := [.none, .autoIcing, .program, .forced]
def ProgramState.all : List ProgramState := [.waiting, .running, .paused]
def Origin.all : List Origin := [.link, .auto]
def AbortCause.all : List AbortCause := [.conditions, .pan, .dipFailed, .noDemand, .zoneFault]
def ZoneCause.all : List ZoneCause := [.evaluation, .feedback, .request, .start]
def LevelCause.all : List LevelCause := [.raiseOk, .raiseSlow, .timeout, .disturbed, .heat, .request]
def QualityState.all : List QualityState := [.idle, .settling, .steady, .disturbed]
def Gate.all : List Gate := [.running, .frozen]
def Period.all : List Period := [.one, .five]
def QualityKind.all : List QualityKind := [.periodic, .closing]
def Severity.all : List Severity := [.note, .degrade, .trip]
def FaultState.all : List FaultState := [.activeUnack, .activeAck, .clearedUnack]
def ModeCause.all : List ModeCause := [.request, .escalation, .linkBreak, .start, .expiry, .startup]
def LoadState.all : List LoadState := [.idle, .loading, .doneValid, .doneDefaults]
def ImageStatus.all : List ImageStatus := [.valid, .defaults]
def StartKind.all : List StartKind := [.cold, .warm]
def StartCause.all : List StartCause := [.powerOn, .resetLine, .restart, .driveExitExpiry]
def ImageCause.all : List ImageCause := [.noResponse, .badSignature, .badChecksum]
def SectionStatus.all : List SectionStatus := [.present, .absent, .defaults]
def FramerState.all : List FramerState := [.hunt, .length, .body, .check]
def BreakWatch.all : List BreakWatch := [.normal, .break_]
def SlipCause.all : List SlipCause := [.none, .replacedPeriodic, .discardedNew, .flushed]
def OfferOutcome.all : List OfferOutcome := [.refreshed, .inserted, .dueAtOnce, .refused]
def Source.all : List Source := [.wayside, .routeData]
/-- The consumers of a due announcement, in the order in which the table of R44 first names them: CHG 0, ICE 1. The manual
numbers no list of them (R56; log 9). -/
def Consumer.all : List Consumer := [.chg, .ice]
def LineCause.all : List LineCause := [.window, .lost, .descriptor]

/-- The period in whole seconds (log 9). -/
def bPeriod (p : Period) : List Byte := b1 (p.ms / 1000)

/-- The reason code of a refusal (R183): the reasons stand in the order of their codes, from 1. -/
def Reason.all : List Reason :=
  [.unknownType, .badLength, .badPan, .badIndex, .outOfRange, .fieldMismatch, .inUse, .badSet, .emptyMask, .earthed,
    .airLow, .stripBreach, .backfeed, .iceSevere, .limit, .mixedSystem, .wrongSystem, .tripped, .notTripped,
    .headNotDown, .badKind, .unfitted, .noSystem, .notUp, .noPermit, .lowerZone, .unknownSystem, .conflict, .noPan,
    .stillClosed, .badZone, .noProgram, .policyOff, .noZone, .zoneFault, .zoneOff, .notMeasuring, .noEntry, .notHeld]

def Reason.code (r : Reason) : Nat := Reason.all.idxOf r + 1

/-- The reason of a refused claim: MODE and BUSY, which have no reason code, as 0xF0 and 0xF1 (log 9). -/
def ClaimReason.code : ClaimReason → Nat
  | .because r => r.code
  | .mode => 0xF0
  | .busy => 0xF1

/-- The reason of a DECLINED: the lines of R126 as 0xF2 to 0xF5 (log 9). -/
def DeclineReason.code : DeclineReason → Nat
  | .policy => 0xF2
  | .program => 0xF3
  | .listFull => 0xF4
  | .zone => 0xF5

/-- The refusal reason of a PAN_STATE report (R79). -/
def RetryRefusal.code : RetryRefusal → Nat
  | .claim w => w.code
  | .declined d => d.code

/-- The detail of INTERLOCK (R183). -/
def Detail.code : Detail → Nat
  | .path => 1
  | .pans => 2
  | .bcPreload => 3

/-- A line state with its system: DEAD 0, ACQUIRING 1, RECOGNIZED 2, SUSPECT 3. -/
def bLine : LineState → List Byte
  | .dead => b1 0 ++ bSystemOr none
  | .acquiring => b1 1 ++ bSystemOr none
  | .recognized i => b1 2 ++ bSystemOr (some i)
  | .suspect i => b1 3 ++ bSystemOr (some i)

/-- A candidate: DEAD 0, NO_MATCH 1, a system 2 with its index. -/
def bCandidate : Candidate → List Byte
  | .dead => b1 0 ++ bSystemOr none
  | .noMatch => b1 1 ++ bSystemOr none
  | .system i => b1 2 ++ bSystemOr (some i)

/-- The kind of an announcement, and its parameter: a system in one byte, a length in two, and absent in two bytes for
the kinds that take none (R46, R184; log 9). -/
def bAnnounced : Announced → List Byte
  | .systemAhead i => b1 1 ++ bNumber i
  | .neutralAhead n => b1 2 ++ b2 n
  | .lowerZone => b1 3 ++ orAbsent 2 b2 none
  | .lowerZoneEnd => b1 4 ++ orAbsent 2 b2 none
  | .icePermit => b1 5 ++ orAbsent 2 b2 none
  | .iceForbid => b1 6 ++ orAbsent 2 b2 none

/-- An entry of the Announcement Queue (R46). -/
def bAnnouncement (a : Announcement) : List Byte :=
  b1 a.id ++ bAnnounced a.what ++ b4 a.trigger ++ bName Source.all a.source

/-- A pair of code and distance. -/
def bPair (p : Pair) : List Byte := b1 p.code.val ++ b2 p.distance

/-- The position of a path state in its list (R83). -/
def PathState.code : PathState → Nat
  | .isolated => 0
  | .selecting => 1
  | .awaitLine => 2
  | .closing => 3
  | .live => 4
  | .opening _ => 5
  | .coasting _ => 6
  | .changing _ => 7
  | .faulted _ => 8

/-- The opening reason, absent outside OPENING. -/
def PathState.reasonCode : PathState → Option Nat
  | .opening (.neutral _) => some 0
  | .opening (.change _) => some 1
  | .opening .lowerZone => some 2
  | .opening .loss => some 3
  | .opening .request => some 4
  | .opening .pan => some 5
  | .opening .earth => some 6
  | _ => none

/-- The coast kind, absent outside COASTING. -/
def PathState.coastCode : PathState → Option Nat
  | .coasting (.neutral _) => some 0
  | .coasting .loss => some 1
  | .coasting .zone => some 2
  | _ => none

/-- The fault cause of FAULTED, with its detail: "no arrival" 0, "left position" 1. -/
def bPathFault : PathState → List Byte
  | .faulted .selectorNoArrival => bName FaultKind.all .selectorTimeout ++ b1 0
  | .faulted .selectorLeftPosition => bName FaultKind.all .selectorTimeout ++ b1 1
  | .faulted .breakerStuckClosed => bName FaultKind.all .breakerStuckClosed ++ orAbsent 1 b1 none
  | _ => orAbsent 1 b1 none ++ orAbsent 1 b1 none

/-- A claim status with its reason (R84). -/
def bClaim : Claim → List Byte
  | .none => b1 0 ++ orAbsent 1 b1 none
  | .sent => b1 1 ++ orAbsent 1 b1 none
  | .taken => b1 2 ++ orAbsent 1 b1 none
  | .held => b1 3 ++ orAbsent 1 b1 none
  | .refused w => b1 4 ++ b1 w.code
  | .ended => b1 5 ++ orAbsent 1 b1 none

/-- A selector drive: STOP 0, TO_n n. -/
def bDrive : SelectorDrive → List Byte
  | .stop => b1 0
  | .to p => bNumber p

/-- A selector feedback: its position, or 0 between positions. -/
def bPosition : Option Position → List Byte
  | some p => bNumber p
  | none => b1 0

/-- A raise valve's value: its setpoint, 0 for off. -/
def bValve (v : Option Nat) : List Byte := b1 (v.getD 0)

/-- The values of the 23 channels. -/
def bChannels (c : Channels) : List Byte :=
  c.rv.toList.flatMap bValve ++ c.qv.toList.flatMap bBool ++ c.hz.toList.flatMap bBool
    ++ bBool c.bc ++ bBool c.bt ++ bDrive c.sd

/-- One channel in SAMPLE: its commanded, preload, safe and driven values (R173). -/
def SampleView.channel {α : Type} (v : SampleView) (value : α → List Byte) (field : Channels → α) : List Byte :=
  value (field v.commanded) ++ value (field v.preload) ++ value (field v.safe) ++ value (field v.driven)

/-- The 23 channels in SAMPLE, in the order of R167, each with its feedback where it has one (R173); feedback closed is 1
and open 0 (log 9). -/
def bSampled (v : SampleView) : List Byte :=
  (allPans.flatMap fun p => v.channel bValve fun c => c.rv.get p)
    ++ (allPans.flatMap fun p => v.channel bBool fun c => c.qv.get p)
    ++ (allZones.flatMap fun z => v.channel bBool (fun c => c.hz.get z) ++ bBool (v.feedback.hz.get z))
    ++ v.channel bBool Channels.bc ++ bBool v.feedback.bc
    ++ v.channel bBool Channels.bt ++ bBool v.feedback.bt
    ++ v.channel bDrive Channels.sd ++ bPosition v.feedback.sd

/-- The inputs of a pan. -/
def bInputs (i : PanInputs) : List Byte := bBool i.headUp ++ bBool i.headDown ++ bBool i.contact ++ bBool i.breach

/-- A pan's record as READ_PAN returns it (R58, R80). That a retry hold which is not present is sent as the value none, the
byte 0, that the timer's remaining time is two bytes in ms, and that the earthing and air readings stand with each pan, is
log 9. -/
def bPan (v : PanView) : List Byte :=
  bBool v.pan.fitted ++ bName StripClass.all v.pan.strip ++ b1 v.pan.rank ++ bName PanState.all v.pan.state
    ++ bName Want.all v.pan.want ++ bName Hold.all v.pan.hold ++ bProfile v.pan.inForce ++ b1 v.pan.base
    ++ b1 v.pan.quality ++ b1 v.pan.ice ++ b1 v.force ++ orAbsent 2 b2 v.pan.lastRaise ++ b1 v.pan.failures
    ++ bNameOr TripCause.all v.pan.trip ++ orAbsent 1 b1 (v.pan.timer.map fun t => t.kind.code v.pan.rate)
    ++ orAbsent 2 b2 (v.pan.timer.map PanTimer.remaining) ++ bInputs v.inputs ++ bValve v.rv ++ bBool v.qv
    ++ bBool v.earthed ++ bBool v.airLow

/-- A location of a zone, with its pan or group. -/
def bLocation : ZoneLocation → List Byte
  | .panHead p => b1 0 ++ bNumber p
  | .insulator g => b1 1 ++ bNumber g
  | .selector => b1 2 ++ orAbsent 1 b1 none
  | .breaker => b1 3 ++ orAbsent 1 b1 none

/-- A check: its remaining time, two bytes in ms (log 9), absent where none runs. -/
def bCheck : Check → List Byte
  | .running n => b2 n
  | .agree | .expired => orAbsent 2 b2 none

/-- A zone as READ_ICE returns it (R111, R132). -/
def bZone (z : Zone) (commanded driven : Bool) : List Byte :=
  bBool z.fitted ++ bLocation z.location ++ b2 z.rated ++ b1 z.priority ++ bName ZoneMode.all z.mode
    ++ bName ZoneState.all z.state ++ bName Demand.all z.demand ++ bBool z.feedback ++ bCheck z.check
    ++ bBool commanded ++ bBool driven

/-- A field that only some records have: absent where `has` does not hold (R184). -/
def bBoolIf (has b : Bool) : List Byte := orAbsent 1 b1 (if has then some (if b then 1 else 0) else none)

/-- A program (R120); its progress as its kind has it: four bytes of ms, one byte of dips, two bytes of metres. The dip
in flight is a field of DIP, and the retry armed of a HEAT of origin AUTO. That a DIP's wait is two bytes in ms is log 9. -/
def bProgram (g : Program) : List Byte :=
  bNumber g.pan ++ bName ProgramKind.all g.kind ++ bName ProgramState.all g.state
    ++ (match g.kind with
      | .heat => b4 g.progress
      | .dip => b1 g.progress
      | .scrape => b2 g.progress)
    ++ bName Origin.all g.origin ++ bBoolIf (decide (g.kind = .dip)) g.inFlight ++ orAbsent 2 b2 g.wait
    ++ bBoolIf (decide (g.kind = .heat) && decide (g.origin = .auto)) g.armed

/-- A result of a program: COMPLETED 0, STOPPED 1, ABORTED 2 with its cause. -/
def bEnd : Option ProgramEnd → List Byte
  | none => orAbsent 1 b1 none ++ orAbsent 1 b1 none
  | some .completed => b1 0 ++ orAbsent 1 b1 none
  | some .stopped => b1 1 ++ orAbsent 1 b1 none
  | some (.aborted c) => b1 2 ++ bName AbortCause.all c

/-- A quality record as READ_QUALITY returns it (R137, R149). -/
def bQuality (v : QualityView) : List Byte :=
  bName QualityState.all v.record.state ++ b1 v.record.settle ++ b1 v.record.clean ++ b1 v.record.steady
    ++ b2 v.record.arcs ++ orAbsent 2 b2 v.record.elapsed ++ b2 v.record.period ++ b4 v.record.total
    ++ b4 v.record.contact ++ b4 v.record.windows ++ b2 v.record.synthetic ++ bBool v.record.inject
    ++ bBool v.record.scrape ++ bBool v.measuring ++ b1 v.offset ++ b1 v.force

/-- An entry of the Fault Table (R154). -/
def bFaultEntry (e : FaultEntry) : List Byte :=
  bName FaultKind.all e.kind ++ bSubject e.subject ++ bName Severity.all e.kind.severity
    ++ bName FaultState.all e.state ++ b1 e.occurrences ++ b4 e.first ++ b4 e.last

/-- An outcome: the state, 3 for removed, 4 for not stored. -/
def bOutcome : FaultOutcome → List Byte
  | .held t => bName FaultState.all t
  | .removed => b1 3
  | .notStored => b1 4

/-- The backfeed watch: QUIET 0, TIMING 1 with its remaining time, PRESENT 2 (R164). That the time takes two bytes, in ms,
is log 9. -/
def bWatch : Watch → List Byte
  | .quiet => b1 0 ++ orAbsent 2 b2 none
  | .timing n => b1 1 ++ b2 n
  | .present _ => b1 2 ++ orAbsent 2 b2 none

/-- What the heater budget was taken from: LIVE 0 with the present system, standby 1, the output mode 2. -/
def bSource : BudgetSource → List Byte
  | .live i => b1 0 ++ bSystem i
  | .standby => b1 1 ++ orAbsent 1 b1 none
  | .mode => b1 2 ++ orAbsent 1 b1 none

/-- A magnitude of line voltage in tenths of a kV, from volts (log 11). -/
def bVolts (n : Nat) : List Byte := b2 (roundBy 100 n)

/-- The input lines (R173). Breaker and contactor feedback closed, precipitation wet, air supply low, earthing switch closed,
a pulse arrived and reset line asserted are 1, and their opposites 0 (log 9). -/
def bLines (l : Lines) : List Byte :=
  l.pans.toList.flatMap bInputs ++ bBool l.breakerClosed ++ bPosition l.selector ++ l.contactors.toList.flatMap bBool
    ++ bVolts l.bus.natAbs ++ bBool l.arcPulse ++ bBool l.earthClosed ++ bBool l.airLow ++ bTemperature l.ambient
    ++ bBool l.wet ++ bBool l.resetAsserted

/-- The measurements of a window (R35). -/
def bMeasurement (m : Measurement) : List Byte :=
  b4 m.number ++ orAbsent 2 b2 m.magnitude ++ bNameOr SupplyKind.all m.kind ++ orAbsent 2 b2 m.frequency
    ++ (match m.clipped with
      | some b => bBool b
      | none => orAbsent 1 b1 none)
    ++ bCandidate m.candidate ++ orAbsent 1 b1 m.deviation

/-! ### Replies and reports as bytes -/

/-- The payload of an OK reply. READ_SYSTEM opens its own with 0 for an empty entry and 1 for a present one (R6), IDENTIFY
gives the vendor code and the part code two bytes each (R193), and a reading or flag of two values is coded as bBool has
it (R94, R173): these, and the other encodings that the manual leaves open, are log 9, the two bytes in ms of the drive-exit
timer's remaining time in SAMPLE and of the period clock in READ_QUALITY among them. -/
def Payload.bytes : Payload → List Byte
  | .nothing => []
  | .identify v => b2 v.vendor.toNat ++ b2 v.part.toNat ++ b1 v.issue ++ b1 v.format ++ bName LoadState.all v.load
      ++ bNameOr ImageStatus.all v.image ++ orAbsent 2 b2 (v.version.map BitVec.toNat)
  | .status v => bName LoadState.all v.load ++ bName StartKind.all v.kind ++ bName OutputMode.all v.mode
      ++ bBool v.timer ++ bName FramerState.all v.framer ++ bName BreakWatch.all v.watch ++ b2 v.checkErrors
      ++ b2 v.abandoned ++ b2 v.overruns ++ b2 v.breaks ++ b2 v.lost ++ bName SlipCause.all v.slip ++ b1 v.replies
      ++ b1 v.reports ++ b1 v.faults ++ bBool v.tripActive
  | .profiles l passOnly => (l.flatMap fun v => bProfile v.staged0 ++ bProfile v.staged1 ++ bProfile v.active
      ++ bProfile v.inForce ++ bBool v.mark ++ bName ConfigStatus.all v.status) ++ bBool passOnly
  | .applied a i r => bList (fun x => bNumber x.1 ++ bName ConfigStatus.all x.2) a ++ bList bNumber i
      ++ bList (fun x => bNumber x.1 ++ bName ConfigStatus.all x.2) r
  | .system d p => (match d with
      | some d => bBool true ++ bDescriptor d
      | none => bBool false) ++ bBool p.inForce ++ bBool p.active ++ bBool p.target ++ bBool p.candidate
  | .line v => bLine v.state ++ bSystem v.reported ++ bSystemOr v.runSystem ++ orAbsent 1 b1 v.runCount
      ++ orAbsent 1 b1 v.good ++ orAbsent 1 b1 v.bad ++ bVolts v.threshold ++ bMeasurement v.latest
  | .announced v => bName OfferOutcome.all v.outcome ++ b1 v.id ++ b4 v.trigger ++ bName Source.all v.source
      ++ orAbsent 1 b1 v.evicted ++ bList b1 v.merged
  | .withdrawn a => bAnnouncement a
  | .announcements v => bList (fun q => bAnnouncement q.entry ++ b4 q.due) v.entries ++ b1 v.nextId ++ b4 v.odometer
      ++ b2 v.speed
  | .validation v => bName Validation.all v
  | .odometer v => b4 v.odometer ++ b2 v.remainder ++ b2 v.speed ++ b2 v.perPulse ++ bName Validation.all v.validation
      ++ (match v.declared with
        | some d => bPair d.pair ++ b4 d.position
        | none => List.replicate 7 0xFF)
      ++ b1 v.pairs ++ b2 v.telegrams ++ b2 v.parityErrors ++ b2 v.declarations ++ b2 v.unmapped
  | .panState t => bName PanState.all t
  | .pans l => l.flatMap bPan
  | .connected i => bNumber i
  | .auto b => bBool b
  | .path v => b1 v.path.state.code ++ bSystem v.path.target ++ bSystemOr v.path.state.next ++ bSystem v.present
      ++ bBool v.path.auto ++ orAbsent 1 b1 v.path.state.reasonCode ++ orAbsent 1 b1 v.path.state.coastCode
      ++ orAbsent 4 b4 v.coastEnd ++ bBool v.path.lowerZone ++ bSystemOr v.path.expected ++ bPathFault v.path.state
      ++ v.path.claims.toList.flatMap bClaim ++ bNameOr PathTimerKind.all (v.path.timer.map PathTimer.kind)
      ++ orAbsent 4 b4 (v.path.timer.map PathTimer.remaining) ++ bBool v.bc ++ bBool v.bt ++ bDrive v.sd
      ++ bBool v.breakerClosed ++ bPosition v.selector ++ bBool v.earthed ++ bLine v.line
      ++ bBool v.closing.recognized ++ bBool v.closing.panUp ++ bBool v.closing.selector ++ bBool v.closing.unearthed
  | .zone m t => bName ZoneMode.all m ++ bName ZoneState.all t
  | .level a b => bName IceLevel.all a ++ bName IceLevel.all b
  | .program g => bProgram g
  | .ice v => (allZones.flatMap fun z => bZone (v.zones.get z) (v.commanded.get z) (v.driven.get z)) ++ b2 v.budget
      ++ b2 v.sumOn ++ bSource v.source ++ bTemperature v.temperature ++ bBool v.wet ++ bTemperature v.icing
      ++ bBool v.cold ++ bBool v.weather ++ v.levels.toList.flatMap (bName IceLevel.all) ++ bList bProgram v.programs
      ++ bBool v.permit ++ b2 v.standby ++ b2 v.scrapeLength
  | .gate g => bName Gate.all g
  | .qualitySetup t r d c => bPeriod t ++ b1 (if r then 0 else 1) ++ b1 d ++ b1 c
  | .quality v => bName Gate.all v.gate ++ bPeriod v.period ++ b1 (if v.reports then 0 else 1) ++ b2 v.clock
      ++ b1 v.disturb ++ b1 v.clean ++ v.records.flatMap bQuality
  | .faults v => bList bFaultEntry v.faults ++ b2 v.overflow ++ bBool v.earthed ++ bBool v.airLow ++ bWatch v.watch
      ++ bBool v.backfeed
  | .acknowledged o => bOutcome o
  | .acknowledgedAll a r => b1 a ++ b1 r
  | .sample v => bName OutputMode.all v.mode ++ bBool v.exitTimer.isSome ++ orAbsent 2 b2 v.exitTimer
      ++ bSampled v ++ bLines v.lines
  | .preload c => bChannels c
  | .mode m t => bName OutputMode.all m ++ bBool t

/-- The body of a reply: the result byte, and what follows it (R183). -/
def Result.bytes : Result → List Byte
  | .ok p => b1 0 ++ p.bytes
  | .busy => b1 1
  | .refused r => b1 2 ++ b1 r.code
  | .notReady => b1 3
  | .unknownId => b1 4
  | .full => b1 5
  | .mode => b1 6
  | .interlock d => b1 7 ++ b1 d.code

/-- The type of a report (R198). -/
def Report.code : Report → Nat
  | .startReport _ => 0x60
  | .applyResult _ _ _ => 0x61
  | .lineState _ => 0x62
  | .marker _ _ => 0x63
  | .panState _ => 0x64
  | .pathState _ => 0x65
  | .iceZone _ => 0x66
  | .iceLevel _ => 0x66
  | .iceProgram _ => 0x67
  | .quality _ => 0x68
  | .fault _ => 0x69
  | .outputMode _ => 0x6A

/-- A MARKER report's own fields (R56): the causes DECLARED 0 to DUE 4. -/
def MarkerEvent.bytes : MarkerEvent → List Byte
  | .declared p what trigger outcome id => b1 0 ++ bPair p ++ bAnnounced what ++ b4 trigger
      ++ bName OfferOutcome.all outcome ++ orAbsent 1 b1 id
  | .unmapped p => b1 1 ++ bPair p
  | .evicted a => b1 2 ++ bAnnouncement a
  | .merged a into => b1 3 ++ bAnnouncement a ++ b1 into
  | .due a c => b1 4 ++ bAnnouncement a ++ bName Consumer.all c

/-- A report's own fields, in the order its rule gives them (R198). A coast end beyond four bytes is sent as its low 32 bits
(log 37), and a retry hold that is not present as the value none, the byte 0 (log 9). The two forms of ICE_ZONE carry
R134's fields and no others, and differ in their size. -/
def Report.bytes : Report → List Byte
  | .startReport r => bName StartKind.all r.kind ++ bName StartCause.all r.cause ++ bName ImageStatus.all r.image
      ++ bNameOr ImageCause.all r.why ++ orAbsent 2 b2 (r.version.map BitVec.toNat)
      ++ (r.sections.flatMap fun t => bBool t.read ++ bNameOr SectionStatus.all t.status)
      ++ b1 r.removedAnnouncements ++ b1 r.removedPrograms ++ bMask r.aborted ++ b4 r.odometer ++ b1 r.faults
      ++ bBool r.tripActive
  | .applyResult p f c => bNumber p ++ bProfile f ++ bName ConfigStatus.all c
  | .lineState r => bLine r.state ++ bSystem r.reported ++ bLine r.previous ++ bName LineCause.all r.cause
      ++ bSystemOr r.lost ++ b4 r.window
  | .marker e odometer => e.bytes ++ b4 odometer
  | .panState r => bNumber r.pan ++ bName PanState.all r.state ++ bName PanState.all r.previous
      ++ bName PanCause.all r.cause ++ bName Want.all r.want ++ bName Hold.all r.hold ++ bNameOr TripCause.all r.trip
      ++ b1 r.force ++ b1 r.failures ++ orAbsent 2 b2 r.lastRaise ++ orAbsent 1 b1 (r.refusal.map RetryRefusal.code)
  | .pathState r => b1 r.state.code ++ b1 r.previous.code ++ bSystem r.target ++ bSystemOr r.state.next
      ++ bSystem r.present ++ orAbsent 1 b1 r.state.reasonCode ++ orAbsent 1 b1 r.state.coastCode
      ++ orAbsent 4 b4 r.coastEnd ++ bBool r.lowerZone ++ bSystemOr r.expected ++ bName PathCause.all r.cause
      ++ orAbsent 1 b1 r.id ++ bNameOr FaultKind.all r.fault ++ bBool r.changeRequired ++ b4 r.odometer
  | .iceZone r => bNumber r.zone ++ bName ZoneState.all r.state ++ bName ZoneState.all r.previous
      ++ bName Demand.all r.demand ++ bName ZoneMode.all r.mode ++ b2 r.budget ++ b2 r.sumOn
      ++ bName ZoneCause.all r.cause
  | .iceLevel r => bNumber r.pan ++ bName IceLevel.all r.level ++ bName IceLevel.all r.previous
      ++ bName LevelCause.all r.cause
  | .iceProgram r => bProgram r.program ++ bNameOr ProgramState.all r.previous ++ bEnd r.ended
  | .quality r => bName Gate.all r.gate ++ bPeriod r.period ++ bName QualityKind.all r.kind
      ++ r.records.toList.flatMap fun q => bName QualityState.all q.state ++ b2 q.period ++ b4 q.total ++ b4 q.contact
        ++ b2 q.synthetic
  | .fault r => b1 (if r.event = .raised then 0 else 1) ++ bName FaultKind.all r.kind ++ bSubject r.subject
      ++ bName Severity.all r.severity ++ bOutcome r.outcome
      ++ (match r.counts with
        | some c => b1 c.occurrences ++ b4 c.first ++ b4 c.last
        | none => List.replicate 9 0xFF)
      ++ (match r.replaced with
        | some x => bName FaultKind.all x.1 ++ bSubject x.2
        | none => List.replicate 2 0xFF)
      ++ b2 r.overflow ++ bBool r.escalated
  | .outputMode r => bName OutputMode.all r.mode ++ bName OutputMode.all r.previous ++ bBool r.timer
      ++ bName ModeCause.all r.cause ++ bBool r.bc ++ bBool r.bt ++ bDrive r.sd

/-- A frame of a type, a tag and a body (R183). -/
def frameBytes (type tag : Byte) (body : List Byte) : List Byte :=
  let len : Byte := BitVec.ofNat 8 (body.length + 2)
  0xD3 :: len :: type :: tag :: body ++ checkBytes len (type :: tag :: body)

/-- The frame of an entry in transmission: a reply with the reply flag and its request's tag, a report with tag 0 and
its opening bytes (R183, R187, R191, R198). -/
def Sent.frame (e : Sent) : List Byte :=
  match e.entry with
  | .reply r => frameBytes (r.code ||| 0x80) r.tag r.result.bytes
  | .report r => frameBytes (BitVec.ofNat 8 r.code) 0 (b2 e.lost ++ bName SlipCause.all e.slip ++ r.bytes)

/-- The bytes that the controller has on the line: the frame of the entry in transmission (R182, R188). -/
def Link.transmits (l : Link) : List Byte :=
  match l.sending with
  | some e => e.frame
  | none => []

/-! ### Bits on the line (R182; log 50) -/

/-- The rate of the link in each direction, in bit/s. -/
abbrev bitRate : Nat := 460800

/-- A byte on the line, true as the idle level: one start bit, 8 data bits, the least significant first, and one stop
bit, with no parity bit. -/
def wireBits (b : Byte) : List Bool := [false] ++ (List.range 8).map b.getLsbD ++ [true]

/-- The byte that ten bits of the line spell; none where they open with no start bit or end with no stop bit, which is
a framing error (R185). -/
def wireByte : List Bool → Option Byte
  | [false, a0, a1, a2, a3, a4, a5, a6, a7, true] =>
    some (BitVec.ofBoolListLE [a0, a1, a2, a3, a4, a5, a6, a7])
  | _ => none

/-- The bits that the controller has on the line: its bytes without a gap between them. -/
def Link.transmitsBits (l : Link) : List Bool := l.transmits.flatMap wireBits

end Sys2Proof.Machine
end

