-- ==== Sys2Proof/Machine/Requests.lean ====
section
/-! DEFINITION. The meanings of the host requests (R197): one for each of their rows, over LNK's decision of the form
(`State.serve`) and the rule of the owner. -/

namespace Sys2Proof.Machine

/-- The outcome of a command: a step that goes on. -/
abbrev Outcome := Host.Outcome State Fault Refusal

/-- IDENTIFY (0x01, R193), decided during loading as at any other time. -/
def execIdentify (tag : Byte) (body : Body Unit) (s : State) : Outcome :=
  .next (s.run fun y => y.request 0x01 tag true body noMask fun y c _ => y.identify c)

/-- STATUS (0x02, R194), decided during loading as at any other time. -/
def execStatus (tag : Byte) (body : Body Unit) (s : State) : Outcome :=
  .next (s.run fun y => y.request 0x02 tag true body noMask fun y c _ => y.status c)

/-- RESTART (0x03, R195). -/
def execRestart (tag : Byte) (body : Body Unit) (s : State) : Outcome :=
  .next (s.serve 0x03 tag body fun y c _ => y.restart c)

/-- STAGE_PROFILE (0x08, R9). -/
def execStageProfile (tag : Byte) (body : Body StageFields) (s : State) : Outcome :=
  .next (s.serve 0x08 tag body Sys.stageProfile)

/-- READ_PROFILE (0x09, R11). -/
def execReadProfile (tag : Byte) (mask : Body Nat) (s : State) : Outcome :=
  .next (s.serveMask 0x09 tag mask id Sys.readProfile)

/-- APPLY (0x0A, R12 to R16). -/
def execApply (tag : Byte) (body : Body ApplyFields) (s : State) : Outcome :=
  .next (s.serveMask 0x0A tag body ApplyFields.mask Sys.apply)

/-- DESCRIBE_SYSTEM (0x0B, R3 to R5). -/
def execDescribeSystem (tag : Byte) (body : Body DescribeFields) (s : State) : Outcome :=
  .next (s.serve 0x0B tag body Sys.describeSystem)

/-- READ_SYSTEM (0x0C, R6). -/
def execReadSystem (tag : Byte) (index : Body Nat) (s : State) : Outcome :=
  .next (s.serve 0x0C tag index Sys.readSystem)

/-- READ_LINE (0x10, R35). -/
def execReadLine (tag : Byte) (body : Body Unit) (s : State) : Outcome :=
  .next (s.serve 0x10 tag body fun y c _ => y.readLine c)

/-- ANNOUNCE (0x14, R51). -/
def execAnnounce (tag : Byte) (body : Body AnnounceFields) (s : State) : Outcome :=
  .next (s.serve 0x14 tag body Sys.announce)

/-- WITHDRAW (0x15, R52). -/
def execWithdraw (tag : Byte) (id : Body Nat) (s : State) : Outcome :=
  .next (s.serve 0x15 tag id Sys.withdraw)

/-- READ_ANNOUNCEMENTS (0x16, R53). -/
def execReadAnnouncements (tag : Byte) (body : Body Unit) (s : State) : Outcome :=
  .next (s.serve 0x16 tag body fun y c _ => y.readAnnouncements c)

/-- MARKER_SETUP (0x17, R54). -/
def execMarkerSetup (tag : Byte) (setting : Body Nat) (s : State) : Outcome :=
  .next (s.serve 0x17 tag setting Sys.markerSetup)

/-- READ_ODOMETER (0x18, R55). -/
def execReadOdometer (tag : Byte) (body : Body Unit) (s : State) : Outcome :=
  .next (s.serve 0x18 tag body fun y c _ => y.readOdometer c)

/-- RAISE (0x1C, R66). -/
def execRaise (tag : Byte) (pan : Body Nat) (s : State) : Outcome :=
  .next (s.serve 0x1C tag pan Sys.raise)

/-- LOWER (0x1D, R73). -/
def execLower (tag : Byte) (pan : Body Nat) (s : State) : Outcome :=
  .next (s.serve 0x1D tag pan Sys.lower)

/-- DROP (0x1E, R75). -/
def execDrop (tag : Byte) (pan : Body Nat) (s : State) : Outcome :=
  .next (s.serve 0x1E tag pan Sys.drop)

/-- RESET_TRIP (0x1F, R76). -/
def execResetTrip (tag : Byte) (pan : Body Nat) (s : State) : Outcome :=
  .next (s.serve 0x1F tag pan Sys.resetTrip)

/-- READ_PAN (0x20, R80). -/
def execReadPan (tag : Byte) (mask : Body Nat) (s : State) : Outcome :=
  .next (s.serveMask 0x20 tag mask id Sys.readPan)

/-- CONNECT (0x24, R90, R91). -/
def execConnect (tag : Byte) (index : Body Nat) (s : State) : Outcome :=
  .next (s.serve 0x24 tag index Sys.connect)

/-- ISOLATE (0x25, R92). -/
def execIsolate (tag : Byte) (body : Body Unit) (s : State) : Outcome :=
  .next (s.serve 0x25 tag body fun y c _ => y.isolate c)

/-- SET_AUTO (0x26, R93). -/
def execSetAuto (tag : Byte) (setting : Body Nat) (s : State) : Outcome :=
  .next (s.serve 0x26 tag setting Sys.setAuto)

/-- CLEAR_PATH (0x27, R107). -/
def execClearPath (tag : Byte) (body : Body Unit) (s : State) : Outcome :=
  .next (s.serve 0x27 tag body fun y c _ => y.clearPath c)

/-- READ_PATH (0x28, R94). -/
def execReadPath (tag : Byte) (body : Body Unit) (s : State) : Outcome :=
  .next (s.serve 0x28 tag body fun y c _ => y.readPath c)

/-- ZONE_MODE (0x2C, R128). -/
def execZoneMode (tag : Byte) (body : Body ZoneModeFields) (s : State) : Outcome :=
  .next (s.serve 0x2C tag body Sys.zoneMode)

/-- ICE_LEVEL (0x2D, R129). -/
def execIceLevel (tag : Byte) (body : Body IceLevelFields) (s : State) : Outcome :=
  .next (s.serve 0x2D tag body Sys.iceLevel)

/-- START_PROGRAM (0x2E, R130). -/
def execStartProgram (tag : Byte) (body : Body StartProgramFields) (s : State) : Outcome :=
  .next (s.serve 0x2E tag body Sys.startProgram)

/-- STOP_PROGRAM (0x2F, R131). -/
def execStopProgram (tag : Byte) (pan : Body Nat) (s : State) : Outcome :=
  .next (s.serve 0x2F tag pan Sys.stopProgram)

/-- READ_ICE (0x30, R132). -/
def execReadIce (tag : Byte) (body : Body Unit) (s : State) : Outcome :=
  .next (s.serve 0x30 tag body fun y c _ => y.readIce c)

/-- GATE (0x34, R144). -/
def execGate (tag : Byte) (command : Body Nat) (s : State) : Outcome :=
  .next (s.serve 0x34 tag command Sys.gate)

/-- RESET_COUNTS (0x35, R145). -/
def execResetCounts (tag : Byte) (body : Body Unit) (s : State) : Outcome :=
  .next (s.serve 0x35 tag body fun y c _ => y.resetCounts c)

/-- QUALITY_SETUP (0x36, R147). -/
def execQualitySetup (tag : Byte) (body : Body QualitySetupFields) (s : State) : Outcome :=
  .next (s.serve 0x36 tag body Sys.qualitySetup)

/-- INJECT_ARC (0x37, R148). -/
def execInjectArc (tag : Byte) (pan : Body Nat) (s : State) : Outcome :=
  .next (s.serve 0x37 tag pan Sys.injectArc)

/-- READ_QUALITY (0x38, R149). -/
def execReadQuality (tag : Byte) (body : Body Unit) (s : State) : Outcome :=
  .next (s.serve 0x38 tag body fun y c _ => y.readQuality c)

/-- READ_FAULTS (0x3C, R164). -/
def execReadFaults (tag : Byte) (body : Body Unit) (s : State) : Outcome :=
  .next (s.serve 0x3C tag body fun y c _ => y.readFaults c)

/-- ACK_FAULT (0x3D, R159). -/
def execAckFault (tag : Byte) (body : Body AckFields) (s : State) : Outcome :=
  .next (s.serve 0x3D tag body Sys.ackFault)

/-- SAMPLE (0x40, R173). -/
def execSample (tag : Byte) (body : Body Unit) (s : State) : Outcome :=
  .next (s.serve 0x40 tag body fun y c _ => y.sample c)

/-- PRELOAD (0x41, R172). -/
def execPreload (tag : Byte) (items : Body (List PreloadItem)) (s : State) : Outcome :=
  .next (s.serve 0x41 tag (preloadOf items) Sys.preload)

/-- OUTPUT_MODE (0x42, R170). -/
def execOutputMode (tag : Byte) (mode : Body Nat) (s : State) : Outcome :=
  .next (s.serve 0x42 tag mode Sys.outputMode)

/-- START (0x43, R177, R178). -/
def execStart (tag : Byte) (body : Body Unit) (s : State) : Outcome :=
  .next (s.serve 0x43 tag body fun y c _ => y.startRequest c)

/-- UNKNOWN_TYPE_FRAME (R187 step 1), whatever its type is (log 27). -/
def execUnknownTypeFrame (tag type : Byte) (s : State) : Outcome := .next (s.run fun y => y.unknownType type tag)

/-- The meaning of the request that a frame received byte by byte spells (R187); no other command does. -/
def execFrame (i : Instr) (s : State) : Outcome :=
  match i with
  | .identify tag body => execIdentify tag body s
  | .status tag body => execStatus tag body s
  | .restart tag body => execRestart tag body s
  | .stageProfile tag body => execStageProfile tag body s
  | .readProfile tag mask => execReadProfile tag mask s
  | .apply tag body => execApply tag body s
  | .describeSystem tag body => execDescribeSystem tag body s
  | .readSystem tag index => execReadSystem tag index s
  | .readLine tag body => execReadLine tag body s
  | .announce tag body => execAnnounce tag body s
  | .withdraw tag id => execWithdraw tag id s
  | .readAnnouncements tag body => execReadAnnouncements tag body s
  | .markerSetup tag setting => execMarkerSetup tag setting s
  | .readOdometer tag body => execReadOdometer tag body s
  | .raise tag pan => execRaise tag pan s
  | .lower tag pan => execLower tag pan s
  | .drop tag pan => execDrop tag pan s
  | .resetTrip tag pan => execResetTrip tag pan s
  | .readPan tag mask => execReadPan tag mask s
  | .connect tag index => execConnect tag index s
  | .isolate tag body => execIsolate tag body s
  | .setAuto tag setting => execSetAuto tag setting s
  | .clearPath tag body => execClearPath tag body s
  | .readPath tag body => execReadPath tag body s
  | .zoneMode tag body => execZoneMode tag body s
  | .iceLevel tag body => execIceLevel tag body s
  | .startProgram tag body => execStartProgram tag body s
  | .stopProgram tag pan => execStopProgram tag pan s
  | .readIce tag body => execReadIce tag body s
  | .gate tag command => execGate tag command s
  | .resetCounts tag body => execResetCounts tag body s
  | .qualitySetup tag body => execQualitySetup tag body s
  | .injectArc tag pan => execInjectArc tag pan s
  | .readQuality tag body => execReadQuality tag body s
  | .readFaults tag body => execReadFaults tag body s
  | .ackFault tag body => execAckFault tag body s
  | .sample tag body => execSample tag body s
  | .preload tag items => execPreload tag items s
  | .outputMode tag mode => execOutputMode tag mode s
  | .start tag body => execStart tag body s
  | .unknownTypeFrame tag type => execUnknownTypeFrame tag type s
  | _ => .next s

end Sys2Proof.Machine
end

