-- ==== Sys2Proof/Machine/Events.lean ====
section
/-! DEFINITION. The meanings of the events: of the link, of start-up, of the roof's inputs, and of timers. An event
of an input line sets its level always, and reaches its block while the block takes events (R173, R176, R203). -/

namespace Sys2Proof.Machine

/-! ### The link (R185 to R192) -/

/-- LNK alone takes an event. -/
def State.onLink (s : State) (f : Link → Link) : State := { s with link := f s.link }

/-- LNK while the framer takes bytes (R192). -/
def Link.ifListening (f : Link → Link) (l : Link) : Link :=
  match l.watch with
  | .normal => f l
  | .break_ => l

/-- BAD_CHECK_FRAME (R186). -/
def execBadCheckFrame (s : State) : Outcome := .next (s.onLink (Link.ifListening Link.checkError))

/-- A good-check frame finds no reply place: it is discarded and counted; the framer is in HUNT (R187, R189, log 27). -/
def Link.overrunFrame (l : Link) : Link :=
  if 4 ≤ l.replies then { l with framer := .hunt }.overrun else l

/-- FRAME_OVERRUN (R189). -/
def execFrameOverrun (s : State) : Outcome := .next (s.onLink (Link.ifListening Link.overrunFrame))

/-- FRAME_GAP_EXPIRY (R185). -/
def execFrameGapExpiry (s : State) : Outcome := .next (s.onLink Link.abandon)

/-- FRAMING_ERROR_BYTE (R185): the byte is discarded too, and the framer is in HUNT. -/
def execFramingErrorByte (s : State) : Outcome := .next (s.onLink (Link.ifListening Link.abandon))

/-- LINK_BREAK_DETECTED (R192). -/
def execLinkBreakDetected (s : State) : Outcome := .next (s.run Sys.linkBreak)

/-- LINK_BREAK_END (R192). -/
def execLinkBreakEnd (s : State) : Outcome := .next (s.onLink Link.breakEnd)

/-- FRAME_SENT (R188, R191). -/
def execFrameSent (s : State) : Outcome := .next (s.onLink Link.frameSent)

/-- RECEIVED_BYTE (R185): the framer takes the byte; one that completes a frame with a good check brings in its
request. -/
def execReceivedByte (byte : Byte) (s : State) : Outcome :=
  let r := s.link.receive byte
  match r.2 with
  | none => .next { s with link := r.1 }
  | some i => execFrame i { s with link := r.1 }

/-! ### Start-up (R202, R203) -/

/-- POWER_ON (R203). -/
def execPowerOn (s : State) : Outcome := .next s.powerOn

/-- RESET_LINE_ASSERTED (R203). -/
def execResetLineAsserted (s : State) : Outcome := .next s.resetAsserted

/-- RESET_LINE_RELEASED (R203). -/
def execResetLineReleased (s : State) : Outcome := .next s.resetReleased

/-- FLASH_READY_TIMEOUT (R202). -/
def execFlashReadyTimeout (s : State) : Outcome := .next (s.run fun y => y.finishLoad (Reading.defaults .noResponse))

/-- IMAGE_READ_TIMEOUT (R202). -/
def execImageReadTimeout (s : State) : Outcome := .next (s.run fun y => y.finishLoad (Reading.defaults .noResponse))

/-- LOAD_END (R203) with the image as it was read. -/
def execLoadEnd (image : List Half) (s : State) : Outcome := .next (s.run fun y => y.finishLoad (readImage image))

/-! ### LSR and MKR (R23, R38 to R42) -/

/-- The roof bus sense at the last sample of a window. -/
def State.setBus (s : State) (v : Int) : State := { s with lines := { s.lines with bus := v } }

/-- WINDOW_COMPLETION (R23); LSR takes no window while a load runs (R38). -/
def execWindowCompletion (samples : Vector Int 80) (s : State) : Outcome :=
  let t := s.setBus (samples.get 79)
  .next (if t.loaded then t.run fun y => y.completeWindow samples.toList else t)

/-- WHEEL_PULSE (R39). -/
def execWheelPulse (s : State) : Outcome := .next (s.run Sys.wheelPulse)

/-- SPEED_RECOMPUTE (R40). -/
def execSpeedRecompute (s : State) : Outcome := .next (s.run Sys.speedRecompute)

/-- TELEGRAM (R41). -/
def execTelegram (t : Telegram) (s : State) : Outcome := .next (s.run fun y => y.takeTelegram t)

/-! ### PAN (R60, R62, R69, R72, R74, R75) -/

/-- An input line of a pan at a level. -/
def State.setPanLine (s : State) (p : PanId) (k : PanInput) (level : Bool) : State :=
  { s with lines := { s.lines with pans := put s.lines.pans p ((s.lines.pans.get p).with k level) } }

/-- PAN_INPUT_CHANGE (R60). -/
def execPanInputChange (p : PanId) (k : PanInput) (level : Bool) (s : State) : Outcome :=
  .next ((s.setPanLine p k level).runJob fun y => y.takePanInput p k level)

/-- RAISE_TIMEOUT (R69). -/
def execRaiseTimeout (p : PanId) (s : State) : Outcome := .next (s.runJob fun y => y.raiseTimeout p)

/-- LOWER_TIMEOUT (R74). -/
def execLowerTimeout (p : PanId) (s : State) : Outcome := .next (s.runJob fun y => y.lowerTimeout p)

/-- DROP_TIMEOUT (R75). -/
def execDropTimeout (p : PanId) (s : State) : Outcome := .next (s.runJob fun y => y.dropTimeout p)

/-- DIP_PULSE_END (R72). -/
def execDipPulseEnd (p : PanId) (s : State) : Outcome := .next (s.runJob fun y => y.dipPulseEnd p)

/-- DIP_REGAIN_EXPIRY (R72). -/
def execDipRegainExpiry (p : PanId) (s : State) : Outcome := .next (s.runJob fun y => y.dipRegainExpiry p)

/-! ### CHG (R85, R86, R95 to R99, R102) -/

/-- The breaker feedback line at a level. -/
def State.setBreakerLine (s : State) (closed : Bool) : State :=
  { s with lines := { s.lines with breakerClosed := closed } }

/-- BREAKER_FEEDBACK_CHANGE (R86). -/
def execBreakerFeedbackChange (closed : Bool) (s : State) : Outcome :=
  .next ((s.setBreakerLine closed).runJob Sys.breakerEvent)

/-- The selector feedback lines at a position. -/
def State.setSelectorLine (s : State) (position : Option Position) : State :=
  { s with lines := { s.lines with selector := position } }

/-- SELECTOR_FEEDBACK_CHANGE (R95). -/
def execSelectorFeedbackChange (position : Option Position) (s : State) : Outcome :=
  .next ((s.setSelectorLine position).runJob Sys.selectorEvent)

/-- SELECTOR_MOVE_TIMEOUT (R95). -/
def execSelectorMoveTimeout (s : State) : Outcome := .next (s.runJob Sys.selectorMoveTimeout)

/-- CLOSE_FEEDBACK_TIMEOUT (R97). -/
def execCloseFeedbackTimeout (s : State) : Outcome := .next (s.runJob Sys.closeFeedbackTimeout)

/-- OPEN_FEEDBACK_TIMEOUT (R99). -/
def execOpenFeedbackTimeout (s : State) : Outcome := .next (s.runJob Sys.openFeedbackTimeout)

/-- AWAIT_LINE_LIMIT_EXPIRY (R96). -/
def execAwaitLineLimitExpiry (s : State) : Outcome := .next (s.runJob Sys.awaitLineLimit)

/-- LOSS_COAST_LIMIT_EXPIRY (R102). -/
def execLossCoastLimitExpiry (s : State) : Outcome := .next (s.runJob Sys.lossCoastLimit)

/-! ### IFU (R152, R161) -/

/-- An interlock line at a level. -/
def State.setInterlockLine (s : State) (k : InterlockInput) (level : Bool) : State :=
  match k with
  | .earthing => { s with lines := { s.lines with earthClosed := level } }
  | .airSupply => { s with lines := { s.lines with airLow := level } }

/-- INTERLOCK_CHANGE (R152): IFU takes it at all times. -/
def execInterlockChange (k : InterlockInput) (level : Bool) (s : State) : Outcome :=
  .next ((s.setInterlockLine k level).run fun y => y.takeInterlock k level)

/-- BACKFEED_WATCH_SAMPLE (R161). -/
def execBackfeedWatchSample (s : State) : Outcome := .next (s.run Sys.sampleWatch)

/-! ### ICE (R112, R117, R121, R122) -/

/-- The ambient temperature line at a reading. -/
def State.setAmbientLine (s : State) (reading : Int) : State := { s with lines := { s.lines with ambient := reading } }

/-- TEMPERATURE_SAMPLE (R112). -/
def execTemperatureSample (reading : Int) (s : State) : Outcome :=
  .next ((s.setAmbientLine reading).runJob fun y => y.setAmbient (holdTemperature reading) y.st.ice.wet)

/-- The precipitation line at a level. -/
def State.setWetLine (s : State) (wet : Bool) : State := { s with lines := { s.lines with wet := wet } }

/-- PRECIPITATION_CHANGE (R112). -/
def execPrecipitationChange (wet : Bool) (s : State) : Outcome :=
  .next ((s.setWetLine wet).runJob fun y => y.setAmbient y.st.ice.temperature wet)

/-- A contactor's feedback line at a level. -/
def State.setContactorLine (s : State) (z : ZoneId) (closed : Bool) : State :=
  { s with lines := { s.lines with contactors := put s.lines.contactors z closed } }

/-- HEATER_FEEDBACK_CHANGE (R117). -/
def execHeaterFeedbackChange (z : ZoneId) (closed : Bool) (s : State) : Outcome :=
  .next ((s.setContactorLine z closed).runJob fun y => y.takeHeaterFeedback z closed)

/-- FEEDBACK_CHECK_EXPIRY (R117). -/
def execFeedbackCheckExpiry (z : ZoneId) (s : State) : Outcome := .next (s.runJob fun y => y.feedbackCheckExpiry z)

/-- HEAT_COMPLETE (R121). -/
def execHeatComplete (p : PanId) (s : State) : Outcome := .next (s.runJob fun y => y.heatComplete p)

/-- DIP_WAIT_EXPIRY (R122). -/
def execDipWaitExpiry (p : PanId) (s : State) : Outcome := .next (s.runJob fun y => y.dipWaitExpiry p)

/-! ### CQM (R136, R139, R146) -/

/-- The arc detector line: whether a pulse has arrived since the last sample. -/
def State.setArcLine (s : State) (pulse : Bool) : State := { s with lines := { s.lines with arcPulse := pulse } }

/-- ARC_SAMPLE (R136): `pulse` says that a pulse has arrived in this millisecond. Where CQM takes no sample the line
keeps it (log 23). -/
def execArcSample (pulse : Bool) (s : State) : Outcome :=
  let arc := s.lines.arcPulse || pulse
  .next (if s.jobsRun then (s.setArcLine false).run fun y => y.takeSample arc else s.setArcLine arc)

/-- QUALITY_WINDOW_END (R139). -/
def execQualityWindowEnd (p : PanId) (s : State) : Outcome := .next (s.runJob fun y => y.windowEnd p)

/-- REPORT_PERIOD_END (R146). -/
def execReportPeriodEnd (s : State) : Outcome := .next (s.runJob Sys.periodEnd)

/-! ### AOS (R177) -/

/-- DRIVE_EXIT_EXPIRY (R177, R178). -/
def execDriveExitExpiry (s : State) : Outcome := .next (s.run Sys.driveExit)

end Sys2Proof.Machine
end

