-- ==== Sys2Proof/Machine/Dispatch.lean ====
section
/-! DEFINITION. The meaning of each command: one arm for each constructor of `Instr`, in the order of the table. -/

namespace Sys2Proof.Machine

def exec (i : Instr) (s : State) : Host.Outcome State Fault Refusal :=
  match i with
  | .identify tag body => Sys2Proof.Machine.execIdentify tag body s
  | .status tag body => Sys2Proof.Machine.execStatus tag body s
  | .restart tag body => Sys2Proof.Machine.execRestart tag body s
  | .stageProfile tag body => Sys2Proof.Machine.execStageProfile tag body s
  | .readProfile tag mask => Sys2Proof.Machine.execReadProfile tag mask s
  | .apply tag body => Sys2Proof.Machine.execApply tag body s
  | .describeSystem tag body => Sys2Proof.Machine.execDescribeSystem tag body s
  | .readSystem tag index => Sys2Proof.Machine.execReadSystem tag index s
  | .readLine tag body => Sys2Proof.Machine.execReadLine tag body s
  | .announce tag body => Sys2Proof.Machine.execAnnounce tag body s
  | .withdraw tag id => Sys2Proof.Machine.execWithdraw tag id s
  | .readAnnouncements tag body => Sys2Proof.Machine.execReadAnnouncements tag body s
  | .markerSetup tag setting => Sys2Proof.Machine.execMarkerSetup tag setting s
  | .readOdometer tag body => Sys2Proof.Machine.execReadOdometer tag body s
  | .raise tag pan => Sys2Proof.Machine.execRaise tag pan s
  | .lower tag pan => Sys2Proof.Machine.execLower tag pan s
  | .drop tag pan => Sys2Proof.Machine.execDrop tag pan s
  | .resetTrip tag pan => Sys2Proof.Machine.execResetTrip tag pan s
  | .readPan tag mask => Sys2Proof.Machine.execReadPan tag mask s
  | .connect tag index => Sys2Proof.Machine.execConnect tag index s
  | .isolate tag body => Sys2Proof.Machine.execIsolate tag body s
  | .setAuto tag setting => Sys2Proof.Machine.execSetAuto tag setting s
  | .clearPath tag body => Sys2Proof.Machine.execClearPath tag body s
  | .readPath tag body => Sys2Proof.Machine.execReadPath tag body s
  | .zoneMode tag body => Sys2Proof.Machine.execZoneMode tag body s
  | .iceLevel tag body => Sys2Proof.Machine.execIceLevel tag body s
  | .startProgram tag body => Sys2Proof.Machine.execStartProgram tag body s
  | .stopProgram tag pan => Sys2Proof.Machine.execStopProgram tag pan s
  | .readIce tag body => Sys2Proof.Machine.execReadIce tag body s
  | .gate tag command => Sys2Proof.Machine.execGate tag command s
  | .resetCounts tag body => Sys2Proof.Machine.execResetCounts tag body s
  | .qualitySetup tag body => Sys2Proof.Machine.execQualitySetup tag body s
  | .injectArc tag pan => Sys2Proof.Machine.execInjectArc tag pan s
  | .readQuality tag body => Sys2Proof.Machine.execReadQuality tag body s
  | .readFaults tag body => Sys2Proof.Machine.execReadFaults tag body s
  | .ackFault tag body => Sys2Proof.Machine.execAckFault tag body s
  | .sample tag body => Sys2Proof.Machine.execSample tag body s
  | .preload tag items => Sys2Proof.Machine.execPreload tag items s
  | .outputMode tag mode => Sys2Proof.Machine.execOutputMode tag mode s
  | .start tag body => Sys2Proof.Machine.execStart tag body s
  | .unknownTypeFrame tag type => Sys2Proof.Machine.execUnknownTypeFrame tag type s
  | .badCheckFrame => Sys2Proof.Machine.execBadCheckFrame s
  | .frameOverrun => Sys2Proof.Machine.execFrameOverrun s
  | .frameGapExpiry => Sys2Proof.Machine.execFrameGapExpiry s
  | .framingErrorByte => Sys2Proof.Machine.execFramingErrorByte s
  | .linkBreakDetected => Sys2Proof.Machine.execLinkBreakDetected s
  | .linkBreakEnd => Sys2Proof.Machine.execLinkBreakEnd s
  | .frameSent => Sys2Proof.Machine.execFrameSent s
  | .powerOn => Sys2Proof.Machine.execPowerOn s
  | .resetLineAsserted => Sys2Proof.Machine.execResetLineAsserted s
  | .resetLineReleased => Sys2Proof.Machine.execResetLineReleased s
  | .flashReadyTimeout => Sys2Proof.Machine.execFlashReadyTimeout s
  | .imageReadTimeout => Sys2Proof.Machine.execImageReadTimeout s
  | .loadEnd image => Sys2Proof.Machine.execLoadEnd image s
  | .windowCompletion samples => Sys2Proof.Machine.execWindowCompletion samples s
  | .wheelPulse => Sys2Proof.Machine.execWheelPulse s
  | .speedRecompute => Sys2Proof.Machine.execSpeedRecompute s
  | .telegram t => Sys2Proof.Machine.execTelegram t s
  | .panInputChange pan input level => Sys2Proof.Machine.execPanInputChange pan input level s
  | .raiseTimeout pan => Sys2Proof.Machine.execRaiseTimeout pan s
  | .lowerTimeout pan => Sys2Proof.Machine.execLowerTimeout pan s
  | .dropTimeout pan => Sys2Proof.Machine.execDropTimeout pan s
  | .dipPulseEnd pan => Sys2Proof.Machine.execDipPulseEnd pan s
  | .dipRegainExpiry pan => Sys2Proof.Machine.execDipRegainExpiry pan s
  | .breakerFeedbackChange closed => Sys2Proof.Machine.execBreakerFeedbackChange closed s
  | .selectorFeedbackChange position => Sys2Proof.Machine.execSelectorFeedbackChange position s
  | .selectorMoveTimeout => Sys2Proof.Machine.execSelectorMoveTimeout s
  | .closeFeedbackTimeout => Sys2Proof.Machine.execCloseFeedbackTimeout s
  | .openFeedbackTimeout => Sys2Proof.Machine.execOpenFeedbackTimeout s
  | .awaitLineLimitExpiry => Sys2Proof.Machine.execAwaitLineLimitExpiry s
  | .lossCoastLimitExpiry => Sys2Proof.Machine.execLossCoastLimitExpiry s
  | .interlockChange input level => Sys2Proof.Machine.execInterlockChange input level s
  | .temperatureSample reading => Sys2Proof.Machine.execTemperatureSample reading s
  | .precipitationChange wet => Sys2Proof.Machine.execPrecipitationChange wet s
  | .heaterFeedbackChange zone closed => Sys2Proof.Machine.execHeaterFeedbackChange zone closed s
  | .feedbackCheckExpiry zone => Sys2Proof.Machine.execFeedbackCheckExpiry zone s
  | .heatComplete pan => Sys2Proof.Machine.execHeatComplete pan s
  | .dipWaitExpiry pan => Sys2Proof.Machine.execDipWaitExpiry pan s
  | .arcSample pulse => Sys2Proof.Machine.execArcSample pulse s
  | .qualityWindowEnd pan => Sys2Proof.Machine.execQualityWindowEnd pan s
  | .reportPeriodEnd => Sys2Proof.Machine.execReportPeriodEnd s
  | .backfeedWatchSample => Sys2Proof.Machine.execBackfeedWatchSample s
  | .driveExitExpiry => Sys2Proof.Machine.execDriveExitExpiry s
  | .receivedByte byte => Sys2Proof.Machine.execReceivedByte byte s

end Sys2Proof.Machine
end

