-- ==== Sys2Proof/Safety.lean ====
section
/-! DEFINITION. The vocabulary of the statements: when a request is taken, what answering it leaves, what no notice
changes, and the invariants of the machine. -/

namespace Sys2Proof

/-! ### Requests as commands -/

/-- The code and the tag of a request (R197). -/
def Instr.request : Instr → Option (Byte × Byte)
  | .identify t _ => some (0x01, t)
  | .status t _ => some (0x02, t)
  | .restart t _ => some (0x03, t)
  | .stageProfile t _ => some (0x08, t)
  | .readProfile t _ => some (0x09, t)
  | .apply t _ => some (0x0A, t)
  | .describeSystem t _ => some (0x0B, t)
  | .readSystem t _ => some (0x0C, t)
  | .readLine t _ => some (0x10, t)
  | .announce t _ => some (0x14, t)
  | .withdraw t _ => some (0x15, t)
  | .readAnnouncements t _ => some (0x16, t)
  | .markerSetup t _ => some (0x17, t)
  | .readOdometer t _ => some (0x18, t)
  | .raise t _ => some (0x1C, t)
  | .lower t _ => some (0x1D, t)
  | .drop t _ => some (0x1E, t)
  | .resetTrip t _ => some (0x1F, t)
  | .readPan t _ => some (0x20, t)
  | .connect t _ => some (0x24, t)
  | .isolate t _ => some (0x25, t)
  | .setAuto t _ => some (0x26, t)
  | .clearPath t _ => some (0x27, t)
  | .readPath t _ => some (0x28, t)
  | .zoneMode t _ => some (0x2C, t)
  | .iceLevel t _ => some (0x2D, t)
  | .startProgram t _ => some (0x2E, t)
  | .stopProgram t _ => some (0x2F, t)
  | .readIce t _ => some (0x30, t)
  | .gate t _ => some (0x34, t)
  | .resetCounts t _ => some (0x35, t)
  | .qualitySetup t _ => some (0x36, t)
  | .injectArc t _ => some (0x37, t)
  | .readQuality t _ => some (0x38, t)
  | .readFaults t _ => some (0x3C, t)
  | .ackFault t _ => some (0x3D, t)
  | .sample t _ => some (0x40, t)
  | .preload t _ => some (0x41, t)
  | .outputMode t _ => some (0x42, t)
  | .start t _ => some (0x43, t)
  | _ => none

/-- A body that has a size its fields allow. -/
def Body.whole {α : Type} : Body α → Bool
  | .wrongSize => false
  | .fields _ => true

/-- The body of a request has one of the sizes that its fields allow; a PRELOAD has 1 to 23 items (R187 step 2). -/
def Instr.whole : Instr → Bool
  | .identify _ b | .status _ b | .restart _ b | .readLine _ b | .readAnnouncements _ b | .readOdometer _ b
  | .isolate _ b | .clearPath _ b | .readPath _ b | .readIce _ b | .resetCounts _ b | .readQuality _ b
  | .readFaults _ b | .sample _ b | .start _ b => b.whole
  | .readProfile _ b | .readSystem _ b | .withdraw _ b | .markerSetup _ b | .raise _ b | .lower _ b | .drop _ b
  | .resetTrip _ b | .readPan _ b | .connect _ b | .setAuto _ b | .stopProgram _ b | .gate _ b | .injectArc _ b
  | .outputMode _ b => b.whole
  | .stageProfile _ b => b.whole
  | .apply _ b => b.whole
  | .describeSystem _ b => b.whole
  | .announce _ b => b.whole
  | .zoneMode _ b => b.whole
  | .iceLevel _ b => b.whole
  | .startProgram _ b => b.whole
  | .qualitySetup _ b => b.whole
  | .ackFault _ b => b.whole
  | .preload _ .wrongSize => false
  | .preload _ (.fields l) => decide (1 ≤ l.length) && decide (l.length ≤ 23)
  | _ => false

/-- The pan mask of a request, where it carries one (R187 step 4). -/
def Instr.mask : Instr → Nat
  | .readProfile _ (.fields m) | .readPan _ (.fields m) => m
  | .apply _ (.fields f) => f.mask
  | _ => 0

end Sys2Proof

namespace Sys2Proof.Machine

/-! ### When a request is taken -/

/-- LNK takes a request: no break, and a free reply place (R187, R189, R192). -/
abbrev State.receives (s : State) : Prop := s.link.watch = .normal ∧ s.link.replies < 4

/-- Every zone's feedback check stands as R117 has it: the test at a step's end finds nothing to change. -/
abbrev State.steady (s : State) : Prop := s.recheck = s

/-- A request reaches its owner: LNK takes it, and no load runs (R187). -/
abbrev State.ready (s : State) : Prop := s.receives ∧ s.loaded = true ∧ s.steady

/-- The jobs take their requests too: they are not held (R176). -/
abbrev State.working (s : State) : Prop := s.ready ∧ s.held = false

/-- The jobs run, and neither the path nor a program stands that a pan's move could move in its turn. -/
abbrev State.calm (s : State) : Prop := s.jobsRun = true ∧ s.path.state = .isolated ∧ s.ice.programs = []

/-- The zones of `t` are those of an evaluation in `s`: the budget first, then the demand of every zone, then the
allocation (R113 to R116), and HZn is commanded on for the zones in ON. Where the feedback checks stand is left open. -/
abbrev State.evaluates (s t : State) : Prop :=
  let zones := allocate s.heaterBudget (s.ice.zones.map fun z => { z with demand := s.demandOf (Work.of s.ice) z })
  t.ice.budget = s.heaterBudget
    ∧ ∀ i : ZoneId, t.ice.zones.get i = { zones.get i with check := (t.ice.zones.get i).check }
        ∧ t.outputs.commanded.hz.get i = decide ((t.ice.zones.get i).state = .on)

/-- IFU after the end of a condition, whether it changes the table or not (R158). -/
def Ifu.endOf (i : Ifu) (k : FaultKind) (j : Subject) : Ifu := (i.endCondition k j).elim i FaultStep.ifu

/-- IFU after a raise (R156, R157). -/
def State.ifuRaised (s : State) (k : FaultKind) (j : Subject) : Ifu := (s.ifu.raise k j s.marker.odometer).ifu

/-- The output mode after a raise: a TRIP raise that finds another TRIP active has AOS in SAFE (R160, R174). -/
def State.modeAfter (s : State) (k : FaultKind) (j : Subject) : OutputMode :=
  if s.ifu.escalates k j then .safe else s.outputs.mode

/-- The whole frame of a request has been received: the framer is in HUNT (R185). -/
def State.heard (s : State) : State := { s with link := { s.link with framer := .hunt } }

/-- A request has been received and answered, and nothing else has happened. -/
def State.answered (s : State) (code tag : Byte) (r : Result) : State :=
  { s with link := Link.reply { s.link with framer := .hunt } { code := code, tag := tag, result := r } }

/-! ### What notices do not change -/

/-- The settings and readings that no notice changes: what the frames of the commands that move pans, path and heaters
leave as it was. -/
structure Still where
  lines : Lines
  loader : Loader
  descriptors : Vector (Option Descriptor) 8
  staged0 : Vector Profile 4
  staged1 : Vector Profile 4
  passOnly : Bool
  fits : Vector (Bool × StripClass × Nat) 4
  auto : Bool
  sense : Sense
  marker : Marker
  panTimes : PanTimes
  pathTimes : PathTimes
  icing : Int
  standby : Nat
  scrapeLength : Nat
  gate : Gate
  period : Period
  reports : Bool
  disturb : Nat
  clean : Nat
  clock : Nat
  earthed : Bool
  airLow : Bool
  preload : Channels
  pending : List Instr
  deriving DecidableEq, Repr

/-- The settings and readings of a state. -/
def State.still (s : State) : Still :=
  { lines := s.lines, loader := s.loader, descriptors := s.store.descriptors, staged0 := s.store.staged0,
    staged1 := s.store.staged1, passOnly := s.store.passOnly,
    fits := s.pans.map fun r => (r.fitted, r.strip, r.rank), auto := s.path.auto, sense := s.sense, marker := s.marker,
    panTimes := s.panTimes, pathTimes := s.pathTimes, icing := s.ice.icing, standby := s.ice.standby,
    scrapeLength := s.ice.scrapeLength, gate := s.cqm.gate, period := s.cqm.period, reports := s.cqm.reports,
    disturb := s.cqm.disturb, clean := s.cqm.clean, clock := s.cqm.clock, earthed := s.ifu.earthed,
    airLow := s.ifu.airLow, preload := s.outputs.preload, pending := s.pending }

/-- The outbound queue after reports posted to it one after another (R190). -/
def Link.posts (l : Link) (rs : List Report) : Link := rs.foldl Link.post l

/-! ### What an event does to the path -/

/-- The path waits to close onto its target: in AWAIT_LINE, in a LOSS coast, and in a NEUTRAL coast from its coast end
on (R96, R101, R102). -/
def State.waits (s : State) : Bool :=
  match s.path.state with
  | .awaitLine | .coasting .loss => true
  | .coasting (.neutral e) => decide (e ≤ s.marker.odometer)
  | .isolated | .selecting | .closing | .live | .opening _ | .coasting .zone | .changing _ | .faulted _ => false

/-- The path waits, and the four parts of the closing condition hold together (R89). -/
abbrev State.closes (s : State) : Prop :=
  s.waits = true ∧ s.ifu.earthed = false
    ∧ ∃ i : SysId, s.path.target = some i ∧ s.sense.record = .recognized i ∧ s.lines.selector ≠ none
      ∧ s.lines.selector = (s.store.descriptors.get i).map Descriptor.selector
      ∧ ∃ q : PanId, (s.pan q).state = .up ∧ (s.pan q).inForce.system = some i

/-- No claim is live, and no pan for the target is in RISING or UP: the connection is lost (R96). -/
abbrev State.unconnected (s : State) : Prop :=
  ∀ q : PanId, (s.path.claims.get q).isLive = false
    ∧ ((s.pan q).inForce.system = s.path.target → (s.pan q).state ≠ .rising ∧ (s.pan q).state ≠ .up)

/-- The PATH_STATE report of a move of the path to `new` by an event that marks nothing and no announcement has caused,
where the new state shows neither a present system nor a coast end (R109). -/
def State.pathMoves (s : State) (new : PathState) (cause : PathCause) (fault : Option FaultKind) : Report :=
  .pathState { state := new, previous := s.path.state, target := if new = .isolated then none else s.path.target,
               present := none, coastEnd := none, lowerZone := s.path.lowerZone, expected := s.path.expected,
               cause := cause, id := none, fault := fault, changeRequired := false, odometer := s.marker.odometer }

/-- In `t` the path has closed from `s` onto its target: CLOSING with the timer of the target's breaker, and LIVE where the
breaker reads closed already (R97; that it goes on at once is log 14). -/
abbrev State.closed (s t : State) : Prop :=
  t.path.target = s.path.target ∧ t.path.claims = s.path.claims ∧ t.path.lowerZone = s.path.lowerZone
    ∧ t.outputs.commanded.bc = true ∧ t.outputs.commanded.bt = false ∧ t.outputs.commanded.sd = .stop
    ∧ (s.lines.breakerClosed = false → t.path.state = .closing ∧ t.path.expected = s.path.expected
        ∧ t.path.timer = (s.descriptor s.path.target).map fun d => { kind := .close, remaining := match d.breaker with
          | .ac => s.pathTimes.closeAc
          | .dc => s.pathTimes.closeDc })
    ∧ (s.lines.breakerClosed = true → t.path.state = .live ∧ t.path.expected = none ∧ t.path.timer = none)

/-- Every pan has its state, its want and its hold in `t` as in `s`. -/
abbrev State.keepsPans (s t : State) : Prop :=
  ∀ q : PanId, (t.pan q).state = (s.pan q).state ∧ (t.pan q).want = (s.pan q).want ∧ (t.pan q).hold = (s.pan q).hold

/-- The path's pans of `s` are withdrawn in `t`, or every pan is lowered (R88): a raised pan that this concerns falls with
its want, and another that the path wants is released. -/
abbrev State.lowersPans (s t : State) (every : Bool) : Prop :=
  ∀ q : PanId,
    let r := s.pan q
    let falls : Prop := r.state.raised = true ∧ (every = true ∨ r.want = .path)
    (t.pan q).state = (if falls then .falling else r.state)
      ∧ (t.pan q).want = (if r.want = .path ∧ r.state.raised = false then .none else r.want)
      ∧ (t.pan q).hold = (if r.want = .path ∧ r.state.raised = false then .none else r.hold)

/-- The claim records of `s` are withdrawn in `t`: a pan that the path wants has none, a claim that is SENT or REFUSED
goes too, and every other claim stays (R88). -/
abbrev State.withdrawsClaims (s t : State) : Prop :=
  ∀ q : PanId, t.path.claims.get q = match (s.pan q).want, s.path.claims.get q with
    | .path, _ | _, .sent | _, .refused _ => .none
    | _, c => c

/-- A pan's state, want and hold, and the claim on it, replaced. -/
def State.withPan (s : State) (p : PanId) (u : PanState) (w : Want) (h : Hold) (c : Claim) : State :=
  { s with
    pans := put s.pans p { s.pan p with state := u, want := w, hold := h }
    path := { s.path with claims := put s.path.claims p c } }

/-- The state in which PAN has moved a pan to `u`, and CHG has the notice of it: a drop ends the hold (R75), the want ends
in TRIPPED, and in DOWN without a hold (R76, R77), and the claim is HELD or ENDED with it (R84). -/
def State.panMovedTo (s : State) (p : PanId) (u : PanState) : State :=
  let r := s.pan p
  let want : Want := if u = .tripped ∨ (u = .down ∧ r.hold = .none) then .none else r.want
  let hold : Hold := if u = .dropping then .none else r.hold
  let claim : Claim := match s.path.claims.get p, u.lowered with
    | .taken, true => if want ≠ .path then .ended else if hold = .none then .taken else .held
    | .held, true => if want ≠ .path then .ended else .held
    | c, _ => c
  s.withPan p u want hold claim

/-- The last pan for the target has left UP with the move of pan `p` to `u` (R97, R98, R102). -/
abbrev State.leavesWire (s : State) (p : PanId) (u : PanState) : Prop :=
  (s.pan p).state = .up ∧ (s.pan p).inForce.system = s.path.target
    ∧ ∀ q : PanId, (s.pan q).inForce.system = s.path.target → ((s.panMovedTo p u).pan q).state ≠ .up

/-- The FAULT report of a raise. -/
def Report.raises (k : FaultKind) (j : Subject) : Report → Bool
  | .fault f => decide (f.event = .raised ∧ f.kind = k ∧ f.subject = j)
  | _ => false

/-- CHG's tests after an event of a pan that leaves `m`, and with which no pan for the target leaves UP: the path closes
where it may, is isolated with NO_PAN_FOR_SYSTEM where it waits in AWAIT_LINE and the connection is lost, and else stays
(R89, R96). -/
def State.pathTests (m t : State) (rs : List Report) : Prop :=
  (m.closes → m.closed t ∧ m.pathMoves .closing .pan none ∈ rs)
  ∧ (¬m.closes → m.path.state = .awaitLine → m.unconnected →
      t.path.state = .isolated ∧ t.path.target = none ∧ t.path.claims = m.path.claims
      ∧ m.pathMoves .isolated .pan (some .noPanForSystem) ∈ rs
      ∧ rs.any (Report.raises .noPanForSystem .path) = true)
  ∧ (¬m.closes → ¬(m.path.state = .awaitLine ∧ m.unconnected) → t.path = m.path)

/-- What CHG does with the move of pan `p` to another state `u`, by the state of the path. In AWAIT_LINE it closes where the
closing condition holds, and is isolated with NO_PAN_FOR_SYSTEM where the connection is lost (R96). From CLOSING and LIVE
the last pan's leaving UP opens it, an open that ends at once where the breaker reads open (R97 to R99), and from a coast of
NEUTRAL or LOSS it isolates the path, which else closes where it may (R101, R102). In CHANGING a pan that is raised is
lowered again (R104); what an all-down point does is left open here. In every other state nothing more happens. -/
def State.pathFollows (s t : State) (p : PanId) (u : PanState) (rs : List Report) : Prop :=
  let m := s.panMovedTo p u
  let stays : Prop := t.path = m.path ∧ m.keepsPans t
  let closes : Prop := m.closed t ∧ m.keepsPans t ∧ s.pathMoves .closing .pan none ∈ rs
  let isolates (fault : Option FaultKind) : Prop :=
    t.path.state = .isolated ∧ t.path.target = none ∧ s.pathMoves .isolated .pan fault ∈ rs
  let left := s.leavesWire p u
  match s.path.state with
  | .awaitLine =>
    (m.closes → closes)
    ∧ (¬m.closes → m.unconnected → isolates (some .noPanForSystem) ∧ m.keepsPans t
        ∧ rs.any (Report.raises .noPanForSystem .path) = true)
    ∧ (¬m.closes → ¬m.unconnected → stays)
  | .closing | .live =>
    (left → s.pathMoves (.opening .pan) .pan none ∈ rs ∧ t.outputs.commanded.bc = false
      ∧ (s.lines.breakerClosed = true → t.path.state = .opening .pan ∧ t.path.target = s.path.target
          ∧ t.outputs.commanded.bt = true ∧ m.keepsPans t)
      ∧ (s.lines.breakerClosed = false → t.path.state = .isolated ∧ t.path.target = none
          ∧ t.outputs.commanded.bt = false ∧ m.lowersPans t (decide (s.outputs.mode = .safe))))
    ∧ (¬left → stays)
  | .coasting .loss | .coasting (.neutral _) =>
    (left → isolates none ∧ m.lowersPans t false)
    ∧ (¬left → m.closes → closes)
    ∧ (¬left → ¬m.closes → stays)
  | .changing _ =>
    (s.pan p).fitted = true → u.lowered = false →
      t.path = m.path ∧ (if u.raised = true then s.panMovedTo p .falling else m).keepsPans t
  | .isolated | .selecting | .opening _ | .coasting .zone | .faulted _ => stays

/-! ### The Program List after an end -/

/-- A HEAT whose head zone may heat: no evaluation ends it (R113, R121). -/
abbrev State.heatable (s : State) (g : Program) : Prop :=
  ∃ z, s.ice.headZone g.pan = some z ∧ (s.ice.zones.get z).state ≠ .faulted ∧ (s.ice.zones.get z).mode ≠ .off
    ∧ (s.pan g.pan).inForce.policy ≠ .off

/-- The programs of `l` as they stand with the zones of `t`: a HEAT runs where its head zone is ON and pauses else, and the
others are as they were (R121). -/
def State.listed (t : State) (l : List Program) : List Program :=
  l.map fun g => { g with
    state := if g.kind ≠ .heat then g.state
    else if (t.ice.headZone g.pan).any (fun z => decide ((t.ice.zones.get z).state = .on)) = true then .running
    else .paused }

/-! ### Invariants -/

/-- The outbound queue keeps its shares, and an entry that may leave does not wait on an idle line (R188, R189). -/
abbrev Link.sound (l : Link) : Prop :=
  l.reports ≤ 28 ∧ l.replies ≤ 4 ∧ (l.sending = none → l.waiting.any l.eligible = false)

/-- No two entries name the same kind and subject (R154). -/
def distinctFaults : List FaultEntry → Bool
  | [] => true
  | e :: l => !(l.any fun f => f.names e.kind e.subject) && distinctFaults l

/-- The Fault Table holds at most 16 entries, one for a kind and subject (R154). -/
abbrev Ifu.sound (i : Ifu) : Prop := i.faults.length ≤ 16 ∧ distinctFaults i.faults = true

/-- A pan's commit-pending mark is set exactly when its config status is IN_PROGRESS, and where it is clear the active
entry equals the in-force profile (R10). No unfitted pan has a mark (R13), and none is set while a load runs (R21,
R22). -/
abbrev State.marksSound (s : State) : Prop :=
  (s.loaded = false → ∀ p : PanId, s.store.marks.get p = false)
    ∧ ∀ p : PanId, (s.store.marks.get p = true ↔ s.store.status.get p = .inProgress)
      ∧ (s.store.marks.get p = false → s.store.active.get p = (s.pan p).inForce)
      ∧ ((s.pan p).fitted = false → s.store.marks.get p = false)

/-- Once a load has ended, the commanded values are those that the records of PAN, CHG and ICE ask for (R61, R86, R115).
Of BT this says what R86 gives it whatever the breaker feedback reads, in CLOSING, LIVE, OPENING and FAULTED. -/
abbrev State.commandsMatch (s : State) : Prop :=
  s.loaded = true →
    s.outputs.commanded.rv = s.pans.map Pan.rvCommand ∧ s.outputs.commanded.qv = s.pans.map Pan.qvCommand
      ∧ s.outputs.commanded.bc = s.path.state.bcCommand
      ∧ (s.path.state.btCommand true = s.path.state.btCommand false →
          s.outputs.commanded.bt = s.path.state.btCommand true)
      ∧ s.outputs.commanded.sd = s.path.state.sdCommand (s.targetPosition s.path.target)
      ∧ s.outputs.commanded.hz = s.ice.zones.map fun z => decide (z.state = .on)

/-- BT is what R86 has for the path state with the breaker feedback as it stands. -/
abbrev State.tripFollows (s : State) : Prop :=
  s.outputs.commanded.bt = s.path.state.btCommand s.lines.breakerClosed

/-- Triggers that do not fall from one entry to the next (R46). -/
def ordered : List Announcement → Bool
  | [] => true
  | [_] => true
  | a :: b :: l => decide (a.trigger ≤ b.trigger) && ordered (b :: l)

/-- The Announcement Queue holds at most 8 entries in the order of their triggers, with ids of their own from 1 to 255
and triggers on the odometer, and no two of one kind and parameter lie within 50 m (R46). -/
abbrev Marker.sound (m : Marker) : Prop :=
  m.queue.length ≤ 8 ∧ ordered m.queue = true ∧ (1 ≤ m.nextId ∧ m.nextId ≤ 255)
    ∧ (∀ a ∈ m.queue, 1 ≤ a.id ∧ a.id ≤ 255 ∧ a.trigger ≤ 4294967295)
    ∧ m.queue.Pairwise fun a b => a.id ≠ b.id ∧ (a.what = b.what → 50 < apart a.trigger b.trigger)

/-- The zones that are on fit in the budget that they were allocated (R115). -/
abbrev Ice.sound (i : Ice) : Prop := sumOn i.zones ≤ i.budget

/-- The Program List holds at most two programs, one for each pan, and none while a load runs (R120, R135). -/
abbrev State.programsSound (s : State) : Prop :=
  s.ice.programs.length ≤ 2 ∧ (s.ice.programs.map Program.pan).Nodup ∧ (s.loaded = false → s.ice.programs = [])

/-- Every field of every present descriptor is in its range, with a frequency and its tolerance exactly where the kind is
AC (R1). -/
abbrev State.descriptorsSound (s : State) : Prop :=
  ∀ (i : SysId) (d : Descriptor), s.store.descriptors.get i = some d →
    (5 ≤ d.nominal ∧ d.nominal ≤ 300) ∧ (50 ≤ d.bandLow ∧ d.bandLow ≤ 100) ∧ (100 ≤ d.bandHigh ∧ d.bandHigh ≤ 130)
      ∧ (40 ≤ d.force ∧ d.force ≤ 140) ∧ (1 ≤ d.maxRaised ∧ d.maxRaised ≤ 2) ∧ d.budget ≤ 400
      ∧ (5 ≤ d.confirm ∧ d.confirm ≤ 63) ∧ d.deviation ≤ 40
      ∧ (d.kind = .ac → ∃ f w, d.frequency = some f ∧ 100 ≤ f ∧ f ≤ 700 ∧ d.tolerance = some w ∧ 1 ≤ w ∧ w ≤ 50)
      ∧ (d.kind = .dc → d.frequency = none ∧ d.tolerance = none)

/-- The pans in RISING, UP or DIPPING are fitted and have one in-force system, whose descriptor is present, admits their
strips and as many of them, and which is the path's target outside ISOLATED and FAULTED (R65); with the marks (R10) and the
strip test of every in-force and active system. -/
abbrev State.raisedSound (s : State) : Prop :=
  let raised (p : PanId) : Bool :=
    decide ((s.pan p).state = .rising) || decide ((s.pan p).state = .up) || decide ((s.pan p).state = .dipping)
  s.marksSound
  ∧ (∀ (p : PanId) (i : SysId) (d : Descriptor),
      (s.pan p).inForce.system = some i ∨ (s.store.active.get p).system = some i →
      s.store.descriptors.get i = some d → d.strip.admits (s.pan p).strip = true)
  ∧ ∀ p, raised p = true →
    (s.pan p).fitted = true
    ∧ (∃ d, s.descriptor (s.pan p).inForce.system = some d ∧ (allPans.filter raised).length ≤ d.maxRaised
        ∧ d.strip.admits (s.pan p).strip = true)
    ∧ (∀ q, raised q = true → (s.pan q).inForce.system = (s.pan p).inForce.system)
    ∧ (s.path.state ≠ .isolated → (∀ c, s.path.state ≠ .faulted c) → (s.pan p).inForce.system = s.path.target)

end Sys2Proof.Machine
end

