-- ==== Sys2Proof/Certificates/Slice0/Obligations.lean ====
section
/-! DEFINITION. The statements for the provers: the queue and the link first, then start-up, the blocks in the order of
the manual's chapters, and the invariants of every step. -/

section Statements

open Sys2Proof Sys2Proof.Machine

/-! ### The queue of commands, and what every request meets (chapter 10) -/

/-- A step runs the command at the front of the queue on the state with the queue's rest. -/
def Obligations.FrontCommandRunsOnTheRest : Prop :=
  ∀ (i : Instr) (rest : List Instr) (s : State), s.pending = i :: rest → step s = exec i { s with pending := rest }

/-- On an empty queue a millisecond passes: the running timers of the jobs come a millisecond nearer to their ends
while the jobs run, the drive-exit timer does always, and nothing else moves. The tick is the model's choice (log 4).
-/
def Obligations.AnEmptyQueueIsAMillisecond : Prop :=
  ∀ s : State, s.pending = [] → ∃ t : State, step s = .next t
    ∧ t = { s with pans := t.pans, path := t.path, ice := t.ice, cqm := t.cqm,
                   outputs := { s.outputs with exitTimer := s.outputs.exitTimer.map fun n => n - 1 } }
    ∧ (s.jobsRun = false → t.pans = s.pans ∧ t.path = s.path ∧ t.ice = s.ice ∧ t.cqm = s.cqm)
    ∧ (s.jobsRun = true →
        t.pans = s.pans.map (fun r => { r with
          timer := r.timer.map fun u => { u with remaining := u.remaining - 1 }
          rising := if r.state = .rising then min 65535 (r.rising + 1) else r.rising })
        ∧ t.path = { s.path with timer := s.path.timer.map fun u => { u with remaining := u.remaining - 1 } }
        ∧ t.ice = { s.ice with
            zones := s.ice.zones.map fun z => { z with check := match z.check with
              | .running n => .running (n - 1)
              | c => c }
            programs := s.ice.programs.map fun g => { g with
              progress := if g.kind = .heat ∧ g.state = .running then g.progress - 1 else g.progress
              wait := g.wait.map fun n => n - 1 } }
        ∧ t.cqm = { s.cqm with
            records := s.cqm.records.map fun r => { r with elapsed := r.elapsed.map fun n => min 999 (n + 1) }
            clock := match s.cqm.gate with
              | .running => min s.cqm.period.ms (s.cqm.clock + 1)
              | .frozen => s.cqm.clock })

/-- A request that is taken is answered by exactly one reply that carries its code and its tag, and everything else
that it brings into the outbound queue is reports behind that reply. (RESTART, which empties the queue of reports
after its reply, has a statement of its own.) -/
def Obligations.EveryRequestIsAnsweredOnce : Prop :=
  ∀ (i : Instr) (code tag : Byte) (s : State), i.request = some (code, tag) → s.receives →
    (∀ g, i = .restart g (.fields ()) → s.loaded = false) →
      ∃ (t : State) (r : Result) (rs : List Report), exec i s = .next t ∧ t.link = (s.answered code tag r).link.posts rs

/-- The form of a frame, in order. In BREAK nothing is taken. With four replies in the queue a frame with a good check
is discarded unanswered and counted. A type that names no request is refused UNKNOWN_TYPE with its own code, load or
no load, and a body of a size that its fields do not allow BAD_LENGTH. While a load runs every request but IDENTIFY
and STATUS is answered NOT_READY. A pan mask with a bit beyond P4 is refused BAD_PAN. Nothing else happens with any of
them. (That UNKNOWN_TYPE_FRAME is refused whatever its type is log 27.) -/
def Obligations.TheFormOfAFrameIsDecidedInOrder : Prop :=
  ∀ (i : Instr) (s : State),
    let frame : Prop := i.request.isSome = true ∨ (∃ tag type, i = .unknownTypeFrame tag type)
    (frame ∨ i = .badCheckFrame ∨ i = .frameOverrun ∨ i = .framingErrorByte ∨ (∃ b, i = .receivedByte b) →
      s.link.watch = .break_ → s.steady → exec i s = .next s)
    ∧ (frame ∨ i = .frameOverrun → s.link.watch = .normal → 4 ≤ s.link.replies → s.steady → exec i s
        = .next { s with link := { s.link with framer := .hunt, overruns := min (s.link.overruns + 1) 65535 } })
    ∧ (∀ tag type, i = .unknownTypeFrame tag type → s.receives → s.steady →
        exec i s = .next (s.answered (type &&& 0x7F) tag (.refused .unknownType)))
    ∧ ∀ code tag, i.request = some (code, tag) → s.receives →
        (i.whole = false → s.steady → exec i s = .next (s.answered code tag (.refused .badLength)))
        ∧ (i.whole = true → 3 ≤ code.toNat → s.loaded = false → exec i s = .next (s.answered code tag .notReady))
        ∧ (16 ≤ i.mask → s.ready → exec i s = .next (s.answered code tag (.refused .badPan)))

/-- The receive framer by its table: each state takes each byte as R185 has it, a frame whose check bytes are those of
R186 is the request that its bytes spell, and a gap, a framing error or a break abandons the frame in progress. A
frame that fails its check is dropped and counted. The check is the CRC-16 of polynomial 0x1021 and initial value
0xFFFF over the length byte and the bytes from the type on, each most significant bit first, sent high byte first. -/
def Obligations.TheFramerFollowsItsTable : Prop :=
  (∀ (s : State) (b : Byte), s.link.watch = .normal →
     let framer (f : Framer) : State := { s with link := { s.link with framer := f } }
     let checkError : State :=
       { s with link := { s.link with framer := .hunt, checkErrors := min (s.link.checkErrors + 1) 65535 } }
     let abandoned : State :=
       { s with link := { s.link with framer := .hunt, abandoned := min (s.link.abandoned + 1) 65535 } }
     (s.link.framer = .hunt → exec (.receivedByte b) s = .next (if b = 0xD3 then framer .length else s))
     ∧ (s.link.framer = .length → exec (.receivedByte b) s
         = .next (if 2 ≤ b.toNat ∧ b.toNat ≤ 250 then framer (.body b.toNat []) else checkError))
     ∧ (∀ n held, s.link.framer = .body n held → exec (.receivedByte b) s
         = .next (framer (if held.length + 1 < n then .body n (held ++ [b]) else .check (held ++ [b]) none)))
     ∧ (∀ held, s.link.framer = .check held none → exec (.receivedByte b) s = .next (framer (.check held (some b))))
     ∧ (∀ type tag body first, s.link.framer = .check (type :: tag :: body) (some first) →
         exec (.receivedByte b) s
           = if checkBytes (BitVec.ofNat 8 (body.length + 2)) (type :: tag :: body) = [first, b] then
               exec (frameCommand type tag body) (framer .hunt)
             else .next checkError)
     ∧ (s.link.framer = .hunt → exec .frameGapExpiry s = .next s ∧ exec .framingErrorByte s = .next s)
     ∧ (s.link.framer ≠ .hunt →
         exec .frameGapExpiry s = .next abandoned ∧ exec .framingErrorByte s = .next abandoned
           ∧ ∃ t : State, exec .linkBreakDetected s = .next t ∧ t.link.framer = .hunt
               ∧ t.link.abandoned = min (s.link.abandoned + 1) 65535))
  ∧ (∀ s : State, s.link.watch = .normal →
       exec .badCheckFrame s
         = .next { s with link := { s.link with framer := .hunt, checkErrors := min (s.link.checkErrors + 1) 65535 } })
  ∧ ∀ (len : Byte) (held : List Byte),
      let bits : List Bool := (len :: held).flatMap fun b => (List.range 8).map fun k => b.getLsbD (7 - k)
      let crc : Half := bits.foldl (fun c b => if c.msb = b then c <<< 1 else (c <<< 1) ^^^ 0x1021) 0xFFFF
      checkBytes len held = [(crc >>> 8).truncate 8, crc.truncate 8]

/-- A frame's type and body spell the request of the catalogue that has its code, and no other type spells one. An
ANNOUNCE of SYSTEM_AHEAD or of NEUTRAL_AHEAD with a parameter of the other's size, and an ACK_FAULT of ALL with a
subject, are of a wrong size. (The numbers of the kinds of ANNOUNCE, the sizes of their parameters and the one byte of
ALL are log 9.) A byte on the line is a start bit, its eight bits from the least significant on, and a stop bit. (That
a stop bit and a 1 are at the idle level is log 50.) -/
def Obligations.RequestCodesFollowTheCatalogue : Prop :=
  (∀ (type tag : Byte) (body : List Byte),
    ((frameCommand type tag body).request = some (type, tag) ∨ frameCommand type tag body = .unknownTypeFrame tag type)
    ∧ (frameCommand type tag body = .unknownTypeFrame tag type ↔ type.toNat ∉
        [0x01, 0x02, 0x03, 0x08, 0x09, 0x0A, 0x0B, 0x0C, 0x10, 0x14, 0x15, 0x16, 0x17, 0x18, 0x1C, 0x1D, 0x1E, 0x1F,
          0x20, 0x24, 0x25, 0x26, 0x27, 0x28, 0x2C, 0x2D, 0x2E, 0x2F, 0x30, 0x34, 0x35, 0x36, 0x37, 0x38, 0x3C, 0x3D,
          0x40, 0x41, 0x42, 0x43]))
  ∧ ∀ (tag a b : Byte),
    frameCommand 0x1C tag [a] = .raise tag (.fields a.toNat)
    ∧ frameCommand 0x1C tag [] = .raise tag .wrongSize
    ∧ frameCommand 0x2C tag [a, b] = .zoneMode tag (.fields { zone := a.toNat, mode := b.toNat })
    ∧ frameCommand 0x41 tag [1, a, b] = .preload tag (.fields [{ channel := a.toNat, value := b.toNat }])
    ∧ frameCommand 0x41 tag [0] = .preload tag .wrongSize
    ∧ frameCommand 0x14 tag [1, a, 0, b] = .announce tag (.fields ⟨1, some a.toNat, b.toNat⟩)
    ∧ frameCommand 0x14 tag [2, 0, a, 0, b] = .announce tag (.fields ⟨2, some a.toNat, b.toNat⟩)
    ∧ frameCommand 0x14 tag [3, 0, b] = .announce tag (.fields ⟨3, none, b.toNat⟩)
    ∧ frameCommand 0x14 tag [1, 0, a, 0, b] = .announce tag .wrongSize
    ∧ frameCommand 0x14 tag [2, a, 0, b] = .announce tag .wrongSize
    ∧ frameCommand 0x3D tag [0xFF] = .ackFault tag (.fields .all)
    ∧ frameCommand 0x3D tag [0xFF, a] = .ackFault tag .wrongSize
    ∧ (wireBits a).length = 10 ∧ (wireBits a).head? = some false ∧ (wireBits a).getLast? = some true
    ∧ ((List.range 8).all fun k => (wireBits a)[k + 1]? == some (a.getLsbD k)) = true ∧ wireByte (wireBits a) = some a

/-- When the entry in transmission has left, the next one begins: the queue's first, or its first reply while reports
are held. A report that begins carries the lost-report count and the slip cause, which return to 0 and none. A posted
report joins the end of the queue where fewer than 28 reports stand in it. Where 28 stand it slips: the oldest waiting
QUALITY report makes room for it, and where none waits it is discarded. The START_REPORT takes its place ahead of
every held report, which are then held no longer; where 28 reports stand the newest of them slips, DISCARDED_NEW.
(That it stands behind the replies that come before the first held report is log 26.) -/
def Obligations.TheQueueSendsInOrderAndReportsSlip : Prop :=
  (∀ s : State, ∃ t : State, exec .frameSent s = .next t ∧ t = { s with link := t.link }
       ∧ (s.link.waiting = [] → t.link = { s.link with sending := none })
       ∧ (∀ r l, s.link.waiting = .reply r :: l →
           t.link = { s.link with sending := some { entry := .reply r, lost := 0, slip := .none }, waiting := l })
       ∧ (∀ r l, s.link.waiting = .report r :: l → s.link.holding = false →
           t.link = { s.link with sending := some { entry := .report r, lost := s.link.lost, slip := s.link.slip },
                                  waiting := l, lost := 0, slip := .none })
       ∧ (∀ (a b : List Entry) (r : Reply), s.link.holding = true → (∀ e ∈ a, e.isReport = true) →
           s.link.waiting = a ++ .reply r :: b →
           t.link = { s.link with sending := some { entry := .reply r, lost := 0, slip := .none }, waiting := a ++ b })
       ∧ (s.link.holding = true → (∀ e ∈ s.link.waiting, e.isReport = true) → t.link = { s.link with sending := none }))
  ∧ (∀ (l : Link) (r : Report),
     (l.reports < 28 → l.post r = Link.begin { l with waiting := l.waiting ++ [.report r] })
     ∧ (∀ (a b : List Entry) (q : Entry), 28 ≤ l.reports → (∀ e ∈ a, e.isQuality = false) → q.isQuality = true →
         l.waiting = a ++ q :: b →
         l.post r = Link.begin { l with waiting := a ++ b ++ [.report r], lost := min (l.lost + 1) 65535,
                                        slip := .replacedPeriodic })
     ∧ (28 ≤ l.reports → (∀ e ∈ l.waiting, e.isQuality = false) →
         l.post r = { l with lost := min (l.lost + 1) 65535, slip := .discardedNew }))
  ∧ (∀ (l : Link) (r : StartReport) (a b : List Entry), (∀ e ∈ a, e.isReport = false) →
       (∀ e, b.head? = some e → e.isReport = true) → l.waiting = a ++ b →
       (l.reports < 28 →
         l.postStart r = Link.begin { l with waiting := a ++ .report (.startReport r) :: b, holding := false })
       ∧ (∀ (c d : List Entry) (e : Report), 28 ≤ l.reports → b = c ++ .report e :: d → (∀ x ∈ d, x.isReport = false) →
           c ≠ [] →
           l.postStart r = Link.begin { l with waiting := a ++ .report (.startReport r) :: (c ++ d), holding := false,
                                               lost := min (l.lost + 1) 65535, slip := .discardedNew }))

/-- A break of the receive line: the watch enters BREAK, the break is counted, the frame in progress is abandoned, and
AOS ends in SAFE, with one report whose cause is the order that came first: the link break's, or the escalation's
where the raise escalates. Where AOS is in SAFE already, the one thing that follows is the raise of LINK_BREAK with
its FAULT report. A break goes on until the line returns to its idle level; the framer then takes bytes from HUNT. -/
def Obligations.ALinkBreakEndsInSafe : Prop :=
  (∀ s : State, s.link.watch = .normal →
     ∃ (t : State) (rs : List Report), exec .linkBreakDetected s = .next t
       ∧ t.link = Link.posts { s.link with watch := .break_, framer := .hunt
                                           breaks := min (s.link.breaks + 1) 65535
                                           abandoned := if s.link.framer = .hunt then s.link.abandoned
                                             else min (s.link.abandoned + 1) 65535 } rs
       ∧ t.still = s.still ∧ t.outputs.mode = .safe ∧ t.outputs.exitTimer = (if s.outputs.mode = .safe then
           s.outputs.exitTimer else none)
       ∧ (s.outputs.mode ≠ .safe → ∃ m c, .outputMode m ∈ rs ∧ m.mode = .safe ∧ m.previous = s.outputs.mode ∧ m.cause = c
           ∧ (c = .linkBreak ∨ (c = .escalation ∧ s.ifu.escalates .linkBreak .none = true)))
       ∧ (s.outputs.mode = .safe → s.steady →
           t = { s with link := t.link, ifu := (s.ifu.raise .linkBreak .none s.marker.odometer).ifu, order := t.order }
           ∧ rs = [(s.ifu.raise .linkBreak .none s.marker.odometer).report .raised .linkBreak .none
               (s.ifu.escalates .linkBreak .none)]))
  ∧ (∀ s : State, s.link.watch = .break_ →
       exec .linkBreakEnd s = .next { s with link := { s.link with watch := .normal, framer := .hunt } }
       ∧ exec .linkBreakDetected s = .next s.recheck)

/-- IDENTIFY carries the part's codes, its issue from 1 to 255, the link format issue 1, and the load state, image
status and version as CIL holds them, and changes nothing; a warm restart keeps the image status and version, and its
load state reads LOADING. STATUS carries the load state, the kind of start-up, the output mode, the drive-exit timer,
the framer and the watch, the counts, the entries that stand in the queue with its own reply, and the fault table's
size and TRIP; it changes nothing. -/
def Obligations.IdentifyAndStatusCarryTheirFields : Prop :=
  ((∀ (tag : Byte) (s : State), s.receives → s.steady →
     exec (.identify tag (.fields ())) s = .next (s.answered 0x01 tag (.ok (.identify
       { vendor := Config.vendorCode, part := Config.partCode, issue := Config.designIssue, format := 1,
         load := s.loader.state, image := s.loader.image, version := s.loader.version }))))
   ∧ 1 ≤ Config.designIssue ∧ Config.designIssue ≤ 255
   ∧ (∀ (tag : Byte) (s : State), s.receives → s.loaded = true → ∃ t : State, exec (.restart tag (.fields ())) s = .next t
       ∧ t.loader.state = .loading ∧ t.loader.image = s.loader.image ∧ t.loader.version = s.loader.version)
   ∧ ∀ s : State, ∃ t : State, exec .powerOn s = .next t ∧ t.loader.image = none ∧ t.loader.version = none)
  ∧ (∀ (tag : Byte) (s : State), s.receives → s.steady →
       exec (.status tag (.fields ())) s = .next (s.answered 0x02 tag (.ok (.status
         { load := s.loader.state, kind := s.loader.kind, mode := s.outputs.mode, timer := s.outputs.exitTimer.isSome,
           framer := .hunt, watch := .normal, checkErrors := s.link.checkErrors, abandoned := s.link.abandoned,
           overruns := s.link.overruns, breaks := s.link.breaks, lost := s.link.lost, slip := s.link.slip,
           replies := s.link.replies + 1, reports := s.link.reports, faults := s.ifu.faults.length,
           tripActive := s.ifu.faults.any fun e => decide (e.kind.severity = .trip)
             && (decide (e.state = .activeUnack) || decide (e.state = .activeAck)) }))))

/-! ### Start-up and the configuration image (chapter 11) -/

/-- The machine right after power-on, as the manual has it: a cold start's load runs with nothing counted yet for its
START_REPORT, the link is empty and holds its reports, AOS drives the safe values, and no job has anything. (That the
load already runs is log 1, and what PRF, PAN and ICE hold before it ends log 3.) Every pan is in DOWN, unwanted and
not held, and the machine has each of the invariants of O53 to O60, which every step keeps. -/
def Obligations.ResetIsAColdStartsLoad : Prop :=
  (State.reset.loader.state = .loading ∧ State.reset.loader.kind = .cold ∧ State.reset.loader.cause = .powerOn
   ∧ State.reset.loader.image = none ∧ State.reset.loader.version = none
   ∧ State.reset.loader.removedAnnouncements = 0 ∧ State.reset.loader.removedPrograms = 0
   ∧ State.reset.loader.abortedPans = []
   ∧ State.reset.link.framer = .hunt ∧ State.reset.link.watch = .normal ∧ State.reset.link.checkErrors = 0
   ∧ State.reset.link.abandoned = 0 ∧ State.reset.link.overruns = 0 ∧ State.reset.link.breaks = 0
   ∧ State.reset.link.lost = 0 ∧ State.reset.link.slip = .none ∧ State.reset.link.entries = []
   ∧ State.reset.link.holding = true
   ∧ State.reset.outputs.mode = .safe ∧ State.reset.outputs.exitTimer = none
   ∧ State.reset.outputs.driven = Channels.safe ∧ State.reset.outputs.preload = Channels.safe
   ∧ State.reset.sense.record = .dead ∧ State.reset.sense.latest.number = 0
   ∧ State.reset.marker.odometer = 0 ∧ State.reset.marker.queue = [] ∧ State.reset.marker.nextId = 1
   ∧ State.reset.marker.validation = .fourOfFive
   ∧ State.reset.path.state = .isolated ∧ State.reset.path.target = none ∧ State.reset.path.claims = .replicate 4 .none
   ∧ State.reset.ice.programs = [] ∧ State.reset.ice.permit = false ∧ State.reset.ice.levels = .replicate 4 .clear
   ∧ State.reset.cqm.gate = .frozen ∧ State.reset.cqm.period = .one ∧ State.reset.cqm.disturb = 6
   ∧ State.reset.cqm.clean = 1
   ∧ State.reset.ifu.faults = [] ∧ State.reset.ifu.overflow = 0 ∧ State.reset.ifu.watch = .quiet
   ∧ State.reset.pending = []
   ∧ ∀ p, (State.reset.pan p).state = .down ∧ (State.reset.pan p).want = .none ∧ (State.reset.pan p).hold = .none)
  ∧ (State.reset.link.sound ∧ State.reset.steady ∧ State.reset.commandsMatch ∧ State.reset.ice.sound
       ∧ State.reset.marker.sound ∧ State.reset.ifu.sound ∧ State.reset.programsSound ∧ State.reset.marksSound
       ∧ State.reset.descriptorsSound ∧ State.reset.raisedSound
       ∧ State.reset.ice.programs = [] ∧ ∀ i : SysId, State.reset.store.descriptors.get i = none)

/-- Power-on and the reset line: each puts every block at its cold-start values, with the lines as they stand and the
interlock readings taken from them. The load begins at power-on with the line released, and at the line's release.
(What PRF, PAN and ICE hold until it ends is log 3, and that a power-on with the line asserted keeps its cause log 38.)
-/
def Obligations.ColdStartsTakeEveryBlock : Prop :=
  ∀ s : State,
    (∃ t : State, exec .powerOn s = .next t
      ∧ t = { State.reset with
          lines := s.lines, order := s.order, pending := s.pending
          ifu := { State.reset.ifu with earthed := s.lines.earthClosed, airLow := s.lines.airLow }
          loader := { State.reset.loader with state := if s.lines.resetAsserted then .idle else .loading } })
    ∧ (∃ t : State, exec .resetLineAsserted s = .next t ∧ t.loader.state = .idle ∧ t.loader.kind = .cold
        ∧ t.loader.cause = .resetLine ∧ t.loader.removedAnnouncements = 0 ∧ t.loader.removedPrograms = 0
        ∧ t.loader.abortedPans = [] ∧ t.lines = { s.lines with resetAsserted := true }
        ∧ t = { State.reset with
            lines := t.lines, order := s.order, pending := s.pending, loader := t.loader
            ifu := { State.reset.ifu with earthed := s.lines.earthClosed, airLow := s.lines.airLow } })
    ∧ (∃ t : State, exec .resetLineReleased s = .next t
        ∧ t = { s with lines := { s.lines with resetAsserted := false }
                       loader := { s.loader with state := if s.loader.state = .idle then .loading
                                                   else s.loader.state } })

/-- RESTART is answered OK, the queue then loses its waiting reports, which are counted as lost, and a warm restart's
load begins: AOS is in SAFE, the path ISOLATED, the queue and the Program List empty, every pending profile aborted,
and each pan as its sensors have it. The drive-exit timer's expiry raises DRIVE_EXIT_EXPIRED and orders the same warm
restart; without a running timer the event changes nothing. (That the expiry acts whatever time its timer still has
is log 5, that a pan has the state of its sensors from the start of the restart on log 30, and that no report but
OUTPUT_MODE follows, so none of a pan that changes its state, log 67.) -/
def Obligations.RestartsAreWarmStarts : Prop :=
  (∀ (tag : Byte) (s : State), s.receives → s.loaded = true →
     ∃ (t : State) (rs : List Report), exec (.restart tag (.fields ())) s = .next t
       ∧ (let l := (s.answered 0x03 tag (.ok .nothing)).link
          let n := (l.waiting.filter Entry.isReport).length
          t.link = Link.posts { l with waiting := l.waiting.filter (fun e => !e.isReport), holding := true
                                       lost := min (l.lost + n) 65535
                                       slip := if n = 0 then l.slip else .flushed } rs)
       ∧ (∀ r ∈ rs, ∃ m, r = .outputMode m)
       ∧ t.loader = { s.loader with state := .loading, kind := .warm, cause := .restart
                                    removedAnnouncements := s.marker.queue.length
                                    removedPrograms := s.ice.programs.length
                                    abortedPans := allPans.filter fun p => s.store.marks.get p }
       ∧ t.outputs.mode = .safe ∧ t.outputs.driven = Channels.safe ∧ t.outputs.preload = s.outputs.preload
       ∧ t.sense.record = .dead ∧ t.sense.latest.number = 0
       ∧ t.marker = { s.marker with history := [], declared := none, queue := [], nextId := 1 }
       ∧ t.path.state = .isolated ∧ t.path.target = none ∧ t.path.auto = s.path.auto ∧ t.path.lowerZone = false
       ∧ t.ice.programs = [] ∧ t.ice.permit = false ∧ t.ice.levels = s.ice.levels
       ∧ t.ifu = { s.ifu with watch := .quiet }
       ∧ (∀ p, t.store.marks.get p = false ∧ t.store.staged0 = s.store.staged0 ∧ t.store.staged1 = s.store.staged1
           ∧ (t.pan p).inForce = (s.pan p).inForce ∧ (t.pan p).want = .none ∧ (t.pan p).hold = .none
           ∧ (s.store.marks.get p = true →
               t.store.active.get p = (s.pan p).inForce ∧ t.store.status.get p = .aborted)
           ∧ (s.store.marks.get p = false → t.store.active.get p = s.store.active.get p
               ∧ t.store.status.get p = s.store.status.get p)
           ∧ (t.pan p).state = (if !(s.pan p).fitted then .down
               else if (s.pan p).state = .tripped then .tripped
               else if (s.lines.pans.get p).headDown && !(s.lines.pans.get p).headUp then .down else .falling)))
  ∧ (∀ s : State,
       (s.outputs.exitTimer = none → s.steady → exec .driveExitExpiry s = .next s)
       ∧ (∀ n, s.outputs.exitTimer = some n → ∃ t : State, exec .driveExitExpiry s = .next t
           ∧ t.loader = { s.loader with state := .loading, kind := .warm, cause := .driveExitExpiry
                                        removedAnnouncements := s.marker.queue.length
                                        removedPrograms := s.ice.programs.length
                                        abortedPans := allPans.filter fun p => s.store.marks.get p }
           ∧ t.ifu = { (s.ifu.raise .driveExitExpired .none s.marker.odometer).ifu with watch := .quiet }
           ∧ t.outputs.mode = .safe ∧ t.outputs.driven = Channels.safe ∧ t.link.holding = true
           ∧ (∀ e ∈ t.link.waiting, ∀ r, e = .report r → ∃ m, r = .outputMode m)
           ∧ t.path.state = .isolated ∧ t.ice.programs = [] ∧ t.marker.queue = [] ∧ t.sense.record = .dead))

/-- A load that runs ends with an image or without: CIL takes the load state, image status and version that its
reading gives, the START_REPORT goes ahead of every held report, the tables are those of the image, AOS enters RUN,
the path begins in ISOLATED or, with the breaker closed, in OPENING(REQUEST), and an invalid image raises
CONFIG_IMAGE_INVALID. The START_REPORT carries the start kind and cause, the image status with the cause that made it
invalid and the version, the five sections in their order, the removed announcements and programs, the aborted pans,
the odometer, the number of entries in the Fault Table and whether a TRIP condition is active there. A section that
the load takes is present or absent, or the defaults stand in for it; a warm restart leaves the PAN and ZONE sections
unread, and each is present or absent as a valid image has it. (The report's place behind the replies and the status
of an unread section are log 26, and that it counts the faults before CONFIG_IMAGE_INVALID is raised log 46.) A cold
start takes pans, profiles and zones from the image and a warm restart keeps them. A profile whose system has no
descriptor or does not admit the strip is replaced by S0, at a warm restart with its config status, and each force
base follows. When a warm restart's load ends, the Fault Table also loses, or holds as cleared, every condition that
its owner has not kept. Outside a running load the end of one changes nothing. The pans when a load has ended: no pan
is wanted or held, no offset stands, and a fitted pan that is not TRIPPED is DOWN where its head reads down and
FALLING where it does not. -/
def Obligations.TheEndOfALoad : Prop :=
  (∀ (i : Instr) (r : Reading) (s : State), s.loader.state = .loading → s.ice.programs = [] →
     ((i = .flashReadyTimeout ∨ i = .imageReadTimeout) ∧ r = Reading.defaults .noResponse
       ∨ ∃ image, i = .loadEnd image ∧ r = readImage image) →
     let raised : Ifu :=
       if r.why.isNone then s.ifu else (s.ifu.raise .configImageInvalid .none s.marker.odometer).ifu
     let found (c : Option (List Nat)) : SectionStatus := if c.isSome then .present else .absent
     let taken (c : Option (List Nat)) : SectionReport :=
       { read := true, status := some (if r.why.isNone then found c else .defaults) }
     let left (c : Option (List Nat)) : SectionReport :=
       { read := false, status := if r.why.isNone then some (found c) else none }
     let kept (c : Option (List Nat)) : SectionReport := if s.loader.kind = .cold then taken c else left c
     let report : StartReport :=
       { kind := s.loader.kind, cause := s.loader.cause, image := if r.why.isNone then .valid else .defaults
         why := r.why, version := r.version
         sections := [taken r.sections.descriptor, kept r.sections.pan, kept r.sections.zone, taken r.sections.marker,
           taken r.sections.timing]
         removedAnnouncements := s.loader.removedAnnouncements, removedPrograms := s.loader.removedPrograms
         aborted := s.loader.abortedPans, odometer := s.marker.odometer, faults := s.ifu.faults.length
         tripActive := s.ifu.faults.any fun e => decide (e.kind.severity = .trip)
           && (decide (e.state = .activeUnack) || decide (e.state = .activeAck)) }
     ∃ (t : State) (rs : List Report), exec i s = .next t
       ∧ t.link = (s.link.postStart report).posts rs
       ∧ t.loader = { s.loader with state := if r.why.isNone then .doneValid else .doneDefaults
                                    image := some (if r.why.isNone then .valid else .defaults)
                                    version := r.version }
       ∧ t.outputs.mode = .run ∧ t.outputs.exitTimer = none ∧ t.outputs.preload = s.outputs.preload
       ∧ t.store.descriptors = descriptorsOf r.sections.descriptor
       ∧ t.marker = { s.marker with perPulse := timing r.sections.timing 1 5 200 100, leads := leadsOf r.sections.timing
                                    map := mapOf r.sections.marker }
       ∧ t.panTimes = panTimesOf r.sections.timing ∧ t.pathTimes = pathTimesOf r.sections.timing
       ∧ t.ice.programs = [] ∧ t.ice.levels = s.ice.levels ∧ t.sense = s.sense ∧ t.lines = s.lines
       ∧ t.path.state = (if s.lines.breakerClosed then .opening .request else .isolated) ∧ t.path.target = none
       ∧ (s.loader.kind = .cold → t.store.passOnly = passOnlyOf r.sections.pan ∧ t.path.auto = autoOf r.sections.timing
           ∧ t.ifu = raised)
       ∧ (s.loader.kind = .warm → t.store.passOnly = s.store.passOnly ∧ t.path.auto = s.path.auto ∧
           let cured : List (FaultKind × Subject) :=
             [(.roofBackfeed, .none), (.selectorTimeout, .path)]
             ++ (if s.lines.breakerClosed then [] else [(.breakerStuckClosed, .path)])
             ++ (allPans.flatMap fun p =>
               (if (t.pan p).state = .tripped then [] else [(.stripBreach, .pan p), (.airLoss, .pan p)])
               ++ (if (t.pan p).state = .down ∨ (t.pan p).state = .tripped then [(.lowerTimeout, .pan p)] else []))
             ++ (allZones.filter fun z => decide ((s.ice.zones.get z).state = .faulted)).map fun z =>
               (.heaterFeedback, .zone z)
           t.ifu = cured.foldl (fun u c => u.endOf c.1 c.2) raised)
       ∧ t.ice.icing = icingOf r.sections.timing ∧ t.ice.standby = timing r.sections.timing 24 0 400 20
       ∧ t.ice.scrapeLength = timing r.sections.timing 25 100 50000 5000 ∧ t.ice.permit = s.ice.permit
       ∧ (∀ z : ZoneId,
           let kept (u v : Zone) : Prop := u.fitted = v.fitted ∧ u.location = v.location ∧ u.rated = v.rated
             ∧ u.priority = v.priority ∧ u.mode = v.mode
           (s.loader.kind = .cold → kept (t.ice.zones.get z) ((zonesOf r.sections.zone).get z))
           ∧ (s.loader.kind = .warm → kept (t.ice.zones.get z) (s.ice.zones.get z)))
       ∧ ∀ p : PanId,
           let f := if s.loader.kind = .cold then ((pansOf r.sections.pan).get p).profile else (s.pan p).inForce
           let entry := f.system.map (descriptorsOf r.sections.descriptor).get
           let unknown : Prop := entry = some none
           let unfit : Prop := entry.any (fun d => d.any fun d => !d.strip.admits (t.pan p).strip) = true
           ((t.pan p).inForce = if unknown ∨ unfit then { system := none, explicit := none, policy := .auto } else f)
           ∧ (unknown ∨ unfit → t.store.active.get p = (t.pan p).inForce)
           ∧ (¬unknown → ¬unfit → t.store.active.get p = if s.loader.kind = .cold then f else s.store.active.get p)
           ∧ t.store.status.get p = (if s.loader.kind = .cold then s.store.status.get p
               else if unknown then .rejectedUnknownSystem else if unfit then .rejectedStrip
               else s.store.status.get p)
           ∧ (t.pan p).base = (match (t.pan p).inForce.explicit, (t.pan p).inForce.system with
               | some e, _ => e.force
               | none, none => 40
               | none, some i => (((descriptorsOf r.sections.descriptor).get i).map Descriptor.force).getD 40)
           ∧ (s.loader.kind = .cold → t.store.staged0.get p = f ∧ t.store.staged1.get p = f
               ∧ (t.pan p).fitted = ((pansOf r.sections.pan).get p).fitted
               ∧ (t.pan p).strip = ((pansOf r.sections.pan).get p).strip
               ∧ (t.pan p).rank = ((pansOf r.sections.pan).get p).rank)
           ∧ (s.loader.kind = .warm → t.store.staged0.get p = s.store.staged0.get p
               ∧ t.store.staged1.get p = s.store.staged1.get p))
  ∧ (∀ (i : Instr) (s : State), i = .flashReadyTimeout ∨ i = .imageReadTimeout ∨ (∃ image, i = .loadEnd image) →
       s.loader.state ≠ .loading → s.steady → exec i s = .next s)
  ∧ (∀ (i : Instr) (s t : State), s.loader.state = .loading → s.ice.programs = [] →
       i = .flashReadyTimeout ∨ i = .imageReadTimeout ∨ (∃ image, i = .loadEnd image) → exec i s = .next t →
       ∀ p : PanId, (t.pan p).want = .none ∧ (t.pan p).hold = .none ∧ (t.pan p).quality = 0 ∧ (t.pan p).ice = 0
         ∧ (s.loader.kind = .warm → (t.pan p).fitted = (s.pan p).fitted ∧ (t.pan p).strip = (s.pan p).strip
             ∧ (t.pan p).rank = (s.pan p).rank)
         ∧ (s.loader.kind = .cold → (t.pan p).fitted = true → (t.pan p).state ≠ .tripped)
         ∧ ((t.pan p).fitted = false → (t.pan p).state = .down)
         ∧ ((t.pan p).fitted = true → (t.pan p).state ≠ .tripped →
             (t.pan p).inputs = s.lines.pans.get p
             ∧ (t.pan p).state = if (s.lines.pans.get p).headDown && !(s.lines.pans.get p).headUp then .down
                 else .falling))

/-- The image by its layout: each section is found through its pointer, and absent where the pointer or the length word
says so. A wrong signature and a wrong sum give defaults with their cause, and a right one gives the sections and the
version. The records of the sections: the later record of a code, an item, a pan, a zone or an index stands, one that
fails its test is ignored, and what no record names has its default. (A word past the given image is log 25, the strip
class A of P3 and P4 log 3, the numbers of a zone's locations and the words 0 and 1 for no and yes log 9, a zone whose
fitted word is neither of them taken as unfitted log 40, and what an unfitted zone shows log 52. The unused words of a
SELECTOR or BREAKER and of a profile that is not explicit are log 60 and log 61, and the numbers of pans, zones, groups,
systems and positions in a record log 62.) -/
def Obligations.TheImageIsReadByItsLayout : Prop :=
  (∀ image : List Half,
     let word (n : Nat) : Nat := (image.getD n (Config.beyondImage n)).toNat
     let content (k : Nat) : Option (List Nat) :=
       let pointer := word (2 + k)
       let length := word pointer
       if pointer < 32 ∨ pointer = 0xFFFF ∨ length = 0 ∨ length = 0xFFFF ∨ 4095 < pointer + length then none
       else some ((List.range length).map fun j => word (pointer + 1 + j))
     let sum := ((List.range 32).map word).sum + ((List.range 5).map fun k => ((content k).getD []).sum).sum
     let defaults (why : ImageCause) : Reading :=
       { sections := { descriptor := none, pan := none, zone := none, marker := none, timing := none }
         version := none, why := some why }
     (word 0 ≠ 0x5A17 → readImage image = defaults .badSignature)
     ∧ (word 0 = 0x5A17 → sum % 65536 ≠ 0xA55A → readImage image = defaults .badChecksum)
     ∧ (word 0 = 0x5A17 → sum % 65536 = 0xA55A → readImage image =
         { sections := { descriptor := content 0, pan := content 1, zone := content 2, marker := content 3
                         timing := content 4 }
           version := some (BitVec.ofNat 16 (word 1)), why := none }))
  ∧ (∀ l : List Nat,
      let cut (n : Nat) (l : List Nat) : List (List Nat) :=
        (List.range (l.length / n)).map fun k => (l.drop (n * k)).take n
      (∀ (n lo hi default : Nat),
        timing none n lo hi default = default
        ∧ timing (some l) n lo hi default = match (cut 2 l).reverse.find? fun r => r[0]? == some n with
            | some r => if lo ≤ r.getD 1 0 ∧ r.getD 1 0 ≤ hi then r.getD 1 0 else default
            | none => default)
      ∧ (∀ code : Fin 64,
          (mapOf none).get code = none
          ∧ (mapOf (some l)).get code = match (cut 3 l).reverse.find? fun r => r[0]? == some code.val with
              | some [_, 1, n] => systemOf n |>.map Announced.systemAhead
              | some [_, 2, n] => if 1 ≤ n ∧ n ≤ 2000 then some (.neutralAhead n) else none
              | some [_, 3, 0xFFFF] => some .lowerZone
              | some [_, 4, 0xFFFF] => some .lowerZoneEnd
              | some [_, 5, 0xFFFF] => some .icePermit
              | some [_, 6, 0xFFFF] => some .iceForbid
              | _ => none)
      ∧ (∀ p : PanId,
          let default : PanSettings :=
            { fitted := decide (p.val < 2), strip := .a, rank := p.val + 1
              profile := { system := none, explicit := none, policy := .auto } }
          let good (r : List Nat) : Bool := r[0]? == some (p.val + 1) && decide (r.getD 1 0 ≤ 1)
            && decide (r.getD 2 0 ≤ 1) && decide (1 ≤ r.getD 3 0) && decide (r.getD 3 0 ≤ 4)
          (pansOf none).get p = default ∧ passOnlyOf none = false ∧ passOnlyOf (some l) = decide (l[0]? = some 1)
          ∧ (pansOf (some l)).get p = match (cut 9 (l.drop 1)).reverse.find? good with
              | some [_, fitted, strip, rank, system, explicit, force, rate, policy] =>
                { fitted := decide (fitted = 1), strip := if strip = 0 then .a else .b, rank := rank
                  profile :=
                    if 8 < system ∨ 1 < explicit ∨ 2 < policy
                      ∨ (explicit = 1 ∧ (force < 40 ∨ 140 < force ∨ 1 < rate)) then default.profile
                    else { system := systemOf system
                           explicit := if explicit = 1 then
                               some { force := force, rate := if rate = 0 then .slow else .normal } else none
                           policy := if policy = 0 then .auto else if policy = 1 then .off else .forced } }
              | _ => default)
      ∧ (∀ z : ZoneId,
          let named : Option (List Nat) := (cut 7 l).reverse.find? fun r => r[0]? == some (z.val + 1)
          (∀ i, (zonesOf none).get i = Zone.reset)
          ∧ (named = none → (zonesOf (some l)).get z = Zone.reset)
          ∧ ∀ index fitted kind place rated priority mode,
              named = some [index, fitted, kind, place, rated, priority, mode] →
              let location : Option ZoneLocation := match kind, panOf place with
                | 0, some p => some (.panHead p)
                | 1, some g => some (.insulator g)
                | 2, _ => some .selector
                | 3, _ => some .breaker
                | _, _ => none
              let zone := (zonesOf (some l)).get z
              zone.mode = (match mode with
                | 0 => .off
                | 2 => .forced
                | _ => .auto)
              ∧ zone.state = .off ∧ zone.demand = .none ∧ zone.check = .agree
              ∧ (location = none ∨ rated < 5 ∨ 80 < rated ∨ 7 < priority ∨ fitted ≠ 1 → zone.fitted = false)
              ∧ (∀ u, location = some u → 5 ≤ rated → rated ≤ 80 → priority ≤ 7 →
                  zone.location = u ∧ zone.rated = rated ∧ zone.priority = priority
                  ∧ (fitted = 1 → (zone.fitted = true ↔ ∀ (p : PanId) (i : ZoneId), u = .panHead p → i < z →
                      ((zonesOf (some l)).get i).fitted = true → ((zonesOf (some l)).get i).location ≠ u))))
      ∧ (∀ i : SysId,
          let spelled (r : List Nat) : Option RawDescriptor := match r with
            | [_, kind, nominal, frequency, low, high, tolerance, strip, force, raised, selector, breaker, budget,
                confirm, deviation, neutral] =>
              let known (n : Nat) : Option Nat := if n = 0xFFFF then none else some n
              some { kind := kind, nominal := nominal, frequency := known frequency, bandLow := low, bandHigh := high
                     tolerance := known tolerance, strip := strip, force := force, maxRaised := raised
                     selector := selector, breaker := breaker, budget := budget, confirm := confirm
                     deviation := deviation, neutral := neutral }
            | _ => none
          let good (r : List Nat) : Bool := r[0]? == some (i.val + 1)
            && (spelled r).any fun d => descriptorInRange d && descriptorMatchesKind d
          (descriptorsOf none).get i = none
          ∧ (descriptorsOf (some l)).get i = (((cut 16 l).reverse.find? good).bind spelled).map buildDescriptor))
  ∧ ∀ c : Option (List Nat),
      leadsOf c = { systemAhead := timing c 2 0 200 80, neutralAhead := timing c 3 0 200 10
                    lowerZone := timing c 4 0 200 80, lowerZoneEnd := timing c 5 0 200 0
                    icePermit := timing c 6 0 200 0, iceForbid := timing c 7 0 200 0 }
      ∧ panTimesOf c = { nominalNormal := timing c 8 10 300 50 * 100, nominalSlow := timing c 9 10 300 80 * 100
                         raiseNormal := timing c 10 10 300 80 * 100, raiseSlow := timing c 11 10 300 120 * 100
                         lower := timing c 12 10 200 60 * 100, drop := timing c 13 5 100 30 * 100
                         dipPulse := timing c 14 100 2000 600, dipRegain := timing c 15 5 100 30 * 100 }
      ∧ pathTimesOf c = { selector := timing c 16 10 200 30 * 100, closeAc := timing c 17 50 1000 200
                          closeDc := timing c 18 50 1000 200, openAc := timing c 19 20 1000 100
                          openDc := timing c 20 20 1000 100, awaitLine := timing c 21 5 120 30 * 1000
                          lossCoast := timing c 22 1 60 10 * 1000 }
      ∧ autoOf c = decide (timing c 26 0 1 1 = 1)
      ∧ icingOf none = 10 ∧ ∀ n, timingItem c 23 = some n → n < 65536 → icingOf c =
          if n ≤ 100 then Int.ofNat n else if 65336 ≤ n then Int.ofNat n - 65536 else 10

/-! ### PRF: descriptors and profiles, and the reads of the first four blocks (chapters 1 to 4) -/

/-- STAGE_PROFILE is checked in the order set, pan, fields; when the checks pass, the staged entry for that set and
pan takes the given content, and nothing else changes. (That explicit no is 0 and yes 1 is log 9, and that an explicit
field, a raise rate or a policy out of its list is refused OUT_OF_RANGE log 10.) -/
def Obligations.StageProfileWritesOneEntry : Prop :=
  ∀ (tag : Byte) (f : StageFields) (s : State), s.ready →
    (1 < f.set → exec (.stageProfile tag (.fields f)) s = .next (s.answered 0x08 tag (.refused .badSet)))
    ∧ (f.set ≤ 1 → f.pan = 0 ∨ 4 < f.pan →
        exec (.stageProfile tag (.fields f)) s = .next (s.answered 0x08 tag (.refused .badPan)))
    ∧ ∀ p : PanId, f.set ≤ 1 → f.pan = p.val + 1 →
        (8 < f.system ∨ 1 < f.explicit ∨ 2 < f.policy ∨ (f.explicit = 1 ∧ (f.force < 40 ∨ 140 < f.force ∨ 1 < f.rate)) →
          exec (.stageProfile tag (.fields f)) s = .next (s.answered 0x08 tag (.refused .outOfRange)))
        ∧ ∀ (h : HeaterPolicy) (i : Option SysId) (e : Option ExplicitForce),
          HeaterPolicy.all[f.policy]? = some h → (i.map fun k => k.val + 1).getD 0 = f.system →
          (f.explicit = 0 ∧ e = none
            ∨ ∃ r, f.explicit = 1 ∧ 40 ≤ f.force ∧ f.force ≤ 140 ∧ RaiseRate.all[f.rate]? = some r
                ∧ e = some { force := f.force, rate := r }) →
          let g : Profile := { system := i, explicit := e, policy := h }
          ∃ t : State, exec (.stageProfile tag (.fields f)) s = .next t
            ∧ t = { s with
                link := (s.answered 0x08 tag (.ok .nothing)).link
                store := if f.set = 0 then { s.store with staged0 := put s.store.staged0 p g }
                  else { s.store with staged1 := put s.store.staged1 p g } }

/-- DESCRIBE_SYSTEM is answered NOT_READY while a load runs, and else checked in the order index, ranges, kind, use:
an index that is named by a pan's in-force profile, an active entry, the path's target or next target, or, outside
ISOLATED, the LSR candidate is refused IN_USE. An accepted DESCRIBE_SYSTEM writes the entry at
its index and no other, with the fields it was sent, and LSR restarts its acquisition where the index is its
candidate, its run's or its record's system. -/
def Obligations.DescribeSystemWritesTheEntry : Prop :=
  let named (s : State) (i : SysId) : Prop :=
    (∃ p : PanId, (s.pan p).inForce.system = some i ∨ (s.store.active.get p).system = some i)
      ∨ s.path.target = some i ∨ s.path.state.next = some i
      ∨ (s.sense.latest.candidate = .system i ∧ s.path.state ≠ .isolated)
  let ranged (d : RawDescriptor) : Prop :=
    (d.kind ≤ 1 ∧ 5 ≤ d.nominal ∧ d.nominal ≤ 300) ∧ (∀ f, d.frequency = some f → 100 ≤ f ∧ f ≤ 700)
      ∧ (50 ≤ d.bandLow ∧ d.bandLow ≤ 100) ∧ (100 ≤ d.bandHigh ∧ d.bandHigh ≤ 130)
      ∧ (∀ w, d.tolerance = some w → 1 ≤ w ∧ w ≤ 50) ∧ d.strip ≤ 2 ∧ (40 ≤ d.force ∧ d.force ≤ 140)
      ∧ (1 ≤ d.maxRaised ∧ d.maxRaised ≤ 2) ∧ (1 ≤ d.selector ∧ d.selector ≤ 3) ∧ d.breaker ≤ 1 ∧ d.budget ≤ 400
      ∧ (5 ≤ d.confirm ∧ d.confirm ≤ 63) ∧ d.deviation ≤ 40 ∧ d.neutral ≤ 1
  let matched (d : RawDescriptor) : Prop :=
    (d.kind = 0 → d.frequency ≠ none ∧ d.tolerance ≠ none) ∧ (d.kind ≠ 0 → d.frequency = none ∧ d.tolerance = none)
  let written (d : RawDescriptor) : Descriptor :=
    { kind := if d.kind = 0 then .ac else .dc, nominal := d.nominal, frequency := d.frequency, bandLow := d.bandLow
      bandHigh := d.bandHigh, tolerance := d.tolerance
      strip := if d.strip = 0 then .a else if d.strip = 1 then .b else .any
      force := d.force, maxRaised := d.maxRaised, selector := Fin.ofNat 3 (d.selector - 1)
      breaker := if d.breaker = 0 then .ac else .dc, budget := d.budget, confirm := d.confirm
      deviation := d.deviation, neutral := if d.neutral = 0 then .openBreaker else .lowerPans }
  (∀ (tag : Byte) (f : DescribeFields) (s : State), s.receives → s.loaded = false →
     exec (.describeSystem tag (.fields f)) s = .next (s.answered 0x0B tag .notReady))
  ∧ (∀ (tag : Byte) (f : DescribeFields) (s : State), s.ready →
     (f.index = 0 ∨ 8 < f.index →
       exec (.describeSystem tag (.fields f)) s = .next (s.answered 0x0B tag (.refused .badIndex)))
     ∧ ∀ i : SysId, f.index = i.val + 1 →
       (∀ d, f.content = some d → ¬ranged d →
         exec (.describeSystem tag (.fields f)) s = .next (s.answered 0x0B tag (.refused .outOfRange)))
       ∧ (∀ d, f.content = some d → ranged d → ¬matched d →
         exec (.describeSystem tag (.fields f)) s = .next (s.answered 0x0B tag (.refused .fieldMismatch)))
       ∧ ((∀ d, f.content = some d → ranged d ∧ matched d) → named s i →
         exec (.describeSystem tag (.fields f)) s = .next (s.answered 0x0B tag (.refused .inUse))))
  ∧ (∀ (tag : Byte) (f : DescribeFields) (i : SysId) (s : State), s.ready → f.index = i.val + 1 →
       (∀ d, f.content = some d → ranged d ∧ matched d) →
       ¬named s i →
       ∃ (t : State) (rs : List Report), exec (.describeSystem tag (.fields f)) s = .next t
         ∧ t.link = (s.answered 0x0B tag (.ok .nothing)).link.posts rs
         ∧ (let restarts := s.sense.latest.candidate = .system i ∨ s.sense.record.reported = some i
              ∨ ∃ n, s.sense.record = .acquiring (some i) n
            (restarts → t.sense = { s.sense with record := .acquiring none 0 }) ∧ (¬restarts → t.sense = s.sense))
         ∧ t = { s with link := t.link, sense := t.sense,
                        store := { s.store with descriptors := put s.store.descriptors i
                                                 (f.content.map written) } })

/-- APPLY is checked as a whole in the order DRIVE, set, mask, mode; a request stopped so changes no pan, no mark and
no status. (That an unlisted mode is refused OUT_OF_RANGE, and last, is log 10, and the numbers of the modes log 9.)
Each pan of the mask is decided by the tests of R13 in their order, and then by NOW (R14) or ON_PASS (R15): the reply
lists the accepted, the ignored and the rejected pans in pan order, the reports of those committed at once by ON_PASS
follow it, and the active entry, the mark, the status and the in-force profile of each pan are those its decision
gives. While no program has an armed retry, no other pan changes, and of a pan that is committed its in-force profile
and its base alone. -/
def Obligations.ApplyDecidesEachPan : Prop :=
  (∀ (tag : Byte) (f : ApplyFields) (s : State), s.ready → f.mask < 16 →
     (s.held = true → exec (.apply tag (.fields f)) s = .next (s.answered 0x0A tag .mode))
     ∧ (s.held = false → 1 < f.set → exec (.apply tag (.fields f)) s = .next (s.answered 0x0A tag (.refused .badSet)))
     ∧ (s.held = false → f.set ≤ 1 → f.mask = 0 →
         exec (.apply tag (.fields f)) s = .next (s.answered 0x0A tag (.refused .emptyMask)))
     ∧ (s.held = false → f.set ≤ 1 → f.mask ≠ 0 → 1 < f.mode →
         exec (.apply tag (.fields f)) s = .next (s.answered 0x0A tag (.refused .outOfRange))))
  ∧ (∀ (tag : Byte) (f : ApplyFields) (s : State),
       s.working → f.set ≤ 1 → 0 < f.mask → f.mask < 16 → f.mode ≤ 1 →
       let staged (p : PanId) : Profile := if f.set = 0 then s.store.staged0.get p else s.store.staged1.get p
       let pans := allPans.filter fun p => f.mask.testBit p.val
       let lowered (p : PanId) : Prop := (s.pan p).state = .down ∨ (s.pan p).state = .tripped
       let decided (p : PanId) : Option ConfigStatus :=
         if (s.pan p).fitted = false then some .rejectedUnfitted
         else if s.store.status.get p = .inProgress then none
         else if (staged p).system ≠ none ∧ s.descriptor (staged p).system = none then some .rejectedUnknownSystem
         else if (s.descriptor (staged p).system).any (fun d => !d.strip.admits (s.pan p).strip) = true then
           some .rejectedStrip
         else if f.mode = 0 then
           if s.store.passOnly = true then some .rejectedPassOnly
           else if ¬lowered p ∧ (staged p).system ≠ (s.pan p).inForce.system then some .rejectedRaised
           else some .success
         else if lowered p ∧ (s.pan p).want ≠ .path then some .success
         else some .inProgress
       let takes (p : PanId) : Prop := decided p = some .success ∨ decided p = some .inProgress
       let chosen (ok : ConfigStatus → Bool) : List (PanId × ConfigStatus) :=
         pans.filterMap fun p => ((decided p).filter ok).map fun c => (p, c)
       let good (c : ConfigStatus) : Bool := decide (c = .success) || decide (c = .inProgress)
       let committed := pans.filter fun p => decide (f.mode = 1) && decide (decided p = some .success)
       ∃ (t : State) (rs : List Report), exec (.apply tag (.fields f)) s = .next t ∧ t.still = s.still
         ∧ t.link = (s.answered 0x0A tag (.ok (.applied (chosen good)
               (pans.filter fun p => (decided p).isNone) (chosen fun c => !good c)))).link.posts
             (committed.map (fun p => .applyResult p (staged p) .success) ++ rs)
         ∧ ((∃ p, pans = [p]) ∨ (∀ g ∈ s.ice.programs, g.armed = false) → ∀ q ∈ pans,
               t.store.active.get q = (if takes q then staged q else s.store.active.get q)
               ∧ t.store.status.get q = (decided q).getD .inProgress
               ∧ t.store.marks.get q = (match decided q with
                 | none => s.store.marks.get q
                 | some c => decide (c = .inProgress))
               ∧ (t.pan q).inForce = (if decided q = some .success then staged q else (s.pan q).inForce)
               ∧ (decided q = some .success → (t.pan q).base = s.forceBase (staged q)))
         ∧ ((∀ g ∈ s.ice.programs, g.armed = false) → ∀ q,
             (q ∉ pans → t.pan q = s.pan q ∧ t.store.active.get q = s.store.active.get q
               ∧ t.store.marks.get q = s.store.marks.get q ∧ t.store.status.get q = s.store.status.get q)
             ∧ (q ∈ pans → t.pan q = if decided q = some .success then
                 { s.pan q with inForce := staged q, base := s.forceBase (staged q) } else s.pan q)))

/-! ### LSR: line recognition (chapter 2) -/

/-- What a completed window leaves of itself: its number, its clipped mark, its crossings and its kind by the crossing
history, its magnitude as the mean of the absolute samples or their root-mean-square, its frequency by the crossings
of its history, its candidate by the tests of R26 in their order, and its deviation, which says whether it is good. A
window that is not clipped is DEAD below 30 % of the lowest nominal voltage among the descriptors that are present,
and below 0.3 kV where there is none. (That a held value lies at the step below or above what is measured is log 11,
as is the exact root that a sample's estimate is compared by; how far back a half period reaches is log 12, and that
the side last left and the samples are carried from window to window log 13.) While a load runs no window is taken. -/
def Obligations.AWindowHasOneCandidate : Prop :=
  ∀ (samples : Vector Int 80) (s : State),
    let lines := { s.lines with bus := samples.get 79 }
    let held : List Int := samples.toList.map fun v => if v < -60000 then -60000 else if 60000 < v then 60000 else v
    let beyond (v : Int) : Option Bool := if 200 ≤ v then some true else if v ≤ -200 then some false else none
    let side (n : Nat) : Option Bool := (held.take n).foldl (fun a v => (beyond v).or a) s.sense.side
    let crossings := (List.range 80).filter fun n => match beyond (held.getD n 0), side n with
      | some b, some a => a != b
      | _, _ => false
    let steps (num den n : Nat) : Prop := n * den < num + den ∧ num < n * den + den
    let squares (l : List Int) : Nat := (l.map fun v => v.natAbs * v.natAbs).sum
    let nominals : List Nat := s.store.descriptors.toList.filterMap fun d => d.map Descriptor.nominal
    let volts : Nat := match nominals.min? with
      | some n => n * 100 * 30 / 100
      | none => 300
    (s.loaded = false → exec (.windowCompletion samples) s = .next { s with lines := lines })
    ∧ (s.loaded = true → ∃ (t : State) (m : Nat) (k : SupplyKind) (rs : List Report),
        exec (.windowCompletion samples) s = .next t
        ∧ t.lines = lines ∧ t.link = s.link.posts rs ∧ t.marker = s.marker
        ∧ t.sense.latest.number = (if s.sense.latest.number = 4294967295 then 1 else s.sense.latest.number + 1)
        ∧ t.sense.latest.magnitude = some m ∧ t.sense.latest.kind = some k
        ∧ t.sense.crossings = (s.sense.crossings.2.1, s.sense.crossings.2.2, crossings) ∧ t.sense.side = side 80
        ∧ t.sense.previous = held
        ∧ (k = .dc ↔ t.sense.crossings = ([], [], []))
        ∧ (k = .dc → steps (held.map Int.natAbs).sum 800 m)
        ∧ (k = .ac → (0 < m → (m - 1) * (m - 1) * 8000 < squares held)
            ∧ squares held < (m + 1) * (m + 1) * 8000)
        ∧ (let times := t.sense.crossings.1 ++ t.sense.crossings.2.1.map (· + 80) ++ t.sense.crossings.2.2.map (· + 160)
           (times.length < 2 → t.sense.latest.frequency = none)
           ∧ ∀ a b, times.head? = some a → times.getLast? = some b → a < b →
               ∃ e, t.sense.latest.frequency = some e ∧ steps ((times.length - 1) * 100000) (b - a) e)
        ∧ t.sense.latest.clipped = some (samples.toList.any fun v => decide (v < -60000) || decide (60000 < v))
        ∧ (t.sense.latest.clipped = some true → t.sense.latest.candidate = .noMatch)
        ∧ (t.sense.latest.clipped = some false → m * 10 < volts → t.sense.latest.candidate = .dead)
        ∧ (t.sense.latest.clipped = some false → volts ≤ m * 10 →
            let accepts (i : SysId) : Bool := (s.store.descriptors.get i).any fun d =>
              decide (d.kind = k) && decide (d.bandLow * d.nominal ≤ m * 10)
                && decide (m * 10 ≤ d.bandHigh * d.nominal)
                && (decide (d.kind = .dc) || (match d.frequency, d.tolerance, t.sense.latest.frequency with
                  | some f, some w, some e => decide (10 * f ≤ e + 10 * w) && decide (e ≤ 10 * f + 10 * w)
                  | _, _, _ => false))
            t.sense.latest.candidate = match allSystems.find? accepts with
              | some i => .system i
              | none => .noMatch)
        ∧ ((∀ i, t.sense.latest.candidate ≠ .system i) → t.sense.latest.deviation = none)
        ∧ (∀ i d span, t.sense.latest.candidate = .system i → s.store.descriptors.get i = some d →
            (k = .dc → span = 1) →
            (∀ e, k = .ac → t.sense.latest.frequency = some e →
              2 * e * span ≤ 200000 + e ∧ 200000 + e < 2 * e * (span + 1)) →
            let window (n : Nat) : List Int := ((s.sense.previous ++ held).take (s.sense.previous.length + n + 1)).reverse.take
              span
            let outside (l : List Int) : Bool :=
              decide (squares l < l.length * ((d.bandLow * d.nominal) * (d.bandLow * d.nominal)))
                || decide (l.length * ((d.bandHigh * d.nominal) * (d.bandHigh * d.nominal)) < squares l)
            let count := ((List.range 80).filter fun n => outside (window n)).length
            t.sense.latest.deviation = some count
            ∧ (s.goodWindow t.sense.latest = true ↔ count ≤ d.deviation)))

/-- In RECOGNIZED(i) a window that is good for i leaves the record as it is, and any other moves it to SUSPECT(i) with
good run 0 and bad run 1, with its report and no event: nothing but LSR's own state and the queue changes. From DEAD
and in ACQUIRING the run is seeded and stepped, and confirmed at its system's confirm windows; in SUSPECT two good
windows bring the system back and three bad ones lose it, the losing window then counting as though it came from DEAD.
(That a good window in SUSPECT leaves a bad run of 0, as R31 has it, is log 48.) -/
def Obligations.TheRecordStepsByWindows : Prop :=
  (∀ (samples : Vector Int 80) (i : SysId) (s : State), s.loaded = true → s.steady → s.sense.record = .recognized i →
     ∃ t : State, exec (.windowCompletion samples) s = .next t
       ∧ t = { s with lines := { s.lines with bus := samples.get 79 }, sense := t.sense, link := t.link }
       ∧ (if s.goodWindow t.sense.latest = true ∧ t.sense.latest.candidate = .system i then
           t.sense.record = .recognized i ∧ t.link = s.link
          else t.sense.record = .suspect i 0 1 ∧ t.sense.record.reported = some i
           ∧ t.link = s.link.post (.lineState
               { state := .suspect i, reported := some i, previous := .recognized i, cause := .window, lost := none,
                 window := t.sense.latest.number })))
  ∧ (∀ (samples : Vector Int 80) (s : State), s.loaded = true →
     (∀ i d, s.store.descriptors.get i = some d → 5 ≤ d.confirm) →
     ∃ (t : State) (rs : List Report), exec (.windowCompletion samples) s = .next t ∧ t.link = s.link.posts rs
       ∧ (let c := t.sense.latest.candidate
          let good := s.goodWindow t.sense.latest
          let seeded : LineRecord := match c with
            | .dead => .dead
            | .noMatch => .acquiring none 0
            | .system i => .acquiring (some i) (if good then 1 else 0)
          let confirmed (i : SysId) (n : Nat) : LineRecord :=
            if (s.store.descriptors.get i).any (fun d => decide (d.confirm ≤ n)) then .recognized i
            else .acquiring (some i) n
          (s.sense.record = .dead → t.sense.record = seeded)
          ∧ (∀ run n, s.sense.record = .acquiring run n → t.sense.record = match c with
              | .system i => if run = some i then confirmed i (if good then n + 1 else 0) else seeded
              | _ => seeded)
          ∧ (∀ i g b, s.sense.record = .suspect i g b →
              t.sense.record = if c = .system i ∧ good = true then
                  (if g = 0 then .suspect i 1 0 else .recognized i)
                else if b ≤ 1 then .suspect i 0 (b + 1) else seeded)))

/-! ### MKR: the odometer, telegrams and announcements (chapter 3) -/

/-- A wheel pulse adds the distance per pulse to the remainder and each whole metre to the odometer, which holds at
its end. On an advance the last declared pair is forgotten from 100 m on, and the entries that are due leave the
queue; each is reported DUE, at once where no job runs to be handed it. At a cold start's load no pulse counts. Every
100 ms, through a warm restart's load too (log 39), the odometer with its remainder is recorded, and the speed is the
way since the record ten before, truncated to 0.1 m/s and held at 200.0 m/s (and 0.0 m/s where the reading has fallen,
at the odometer's end: log 69). The entries that are then due leave the queue. A lead is 20 m plus the speed times the
lead time of the kind, rounded up to the next whole metre. Where no program stands and no entry falls due, a NEUTRAL
coast is tested on each advance: from its coast end on it closes where the closing condition holds (with the cause
ODOMETER: log 21; at once to LIVE where the breaker reads closed: log 14), and else it turns into a LOSS coast at the
coast end plus 200 m, without a report of its own (log 16), or stays as it is; no pan moves. -/
def Obligations.TheOdometerAndTheSpeedAdvance : Prop :=
  (∀ s : State,
     (s.loader.state = .idle ∨ (s.loader.state = .loading ∧ s.loader.kind = .cold) → s.steady →
       exec .wheelPulse s = .next s)
     ∧ (s.loaded = true ∨ (s.loader.state = .loading ∧ s.loader.kind = .warm) →
         let sum := s.marker.remainder + s.marker.perPulse
         let odometer := min 4294967295 (s.marker.odometer + sum / 100)
         let due (a : Announcement) : Bool := decide (a.trigger ≤ odometer + s.marker.lead a.what)
         let m := { s.marker with odometer := odometer, remainder := sum % 100 }
         ∃ (t : State) (rs : List Report), exec .wheelPulse s = .next t ∧ t.link = s.link.posts rs
           ∧ t.marker = (if odometer ≤ s.marker.odometer then m
               else { m with queue := s.marker.queue.filter fun a => !due a
                             declared := s.marker.declared.filter fun d => decide (odometer < d.position + 100) })
           ∧ t.still = { s.still with marker := t.marker }
           ∧ (s.jobsRun = false → s.marker.odometer < odometer → s.marker.queue.length ≤ 8 →
               rs = (s.marker.queue.filter due).map fun a => .marker (.due a a.what.consumer) odometer)))
  ∧ (∀ s : State, s.loaded = true ∨ (s.loader.state = .loading ∧ s.loader.kind = .warm) →
       let now := s.marker.odometer * 100 + s.marker.remainder
       let past := if s.marker.readings = [] then List.replicate 10 now else s.marker.readings
       let m := { s.marker with readings := past.tail ++ [now], speed := min 2000 ((now - past.headD now) / 10) }
       ∃ (t : State) (rs : List Report), exec .speedRecompute s = .next t ∧ t.link = s.link.posts rs
         ∧ (let due (a : Announcement) : Bool := decide (a.trigger ≤ s.marker.odometer + m.lead a.what)
            t.marker = { m with queue := s.marker.queue.filter fun a => !due a })
         ∧ t.still = { s.still with marker := t.marker })
  ∧ (∀ (m : Marker) (a : Announced) (n : Nat),
       (n = m.lead a ↔ 20 * 100 + m.speed * m.leads.of a ≤ n * 100 ∧ n * 100 < 20 * 100 + m.speed * m.leads.of a + 100)
       ∧ LeadTimes.default.of (.systemAhead 0) = 80 ∧ LeadTimes.default.of (.neutralAhead 1) = 10
       ∧ LeadTimes.default.of .lowerZone = 80 ∧ LeadTimes.default.of .lowerZoneEnd = 0
       ∧ LeadTimes.default.of .icePermit = 0 ∧ LeadTimes.default.of .iceForbid = 0)
  ∧ (∀ (coastEnd : Nat) (s : State), s.jobsRun = true → s.ice.programs = [] →
       s.path.state = .coasting (.neutral coastEnd) →
       let odometer := min 4294967295 (s.marker.odometer + (s.marker.remainder + s.marker.perPulse) / 100)
       let m := { s with marker := { s.marker with odometer := odometer } }
       (∀ a ∈ s.marker.queue, odometer + s.marker.lead a.what < a.trigger) →
       ∃ (t : State) (rs : List Report), exec .wheelPulse s = .next t ∧ t.link = s.link.posts rs ∧ t.pans = s.pans
         ∧ (odometer ≤ s.marker.odometer → t.path = s.path ∧ rs = [])
         ∧ (s.marker.odometer < odometer →
             (m.closes → m.closed t ∧ rs.head? = some (m.pathMoves .closing .odometer none))
             ∧ (¬m.closes → coastEnd + 200 ≤ odometer →
                 t.path = { s.path with state := .coasting .loss
                                        timer := some { kind := .lossCoast, remaining := s.pathTimes.lossCoast } }
                 ∧ ∀ r, .pathState r ∉ rs)
             ∧ (¬m.closes → odometer < coastEnd + 200 → t.path = s.path ∧ rs = [])))

/-- A telegram with bad parity or a framing error is dropped and counted; one with good parity is counted and joins
the history of the last ten pairs. While a load runs, none is taken. A good telegram's pair is declared when enough of
the latest pairs equal it and it is not the last declared pair. A declared pair is held with its position and counted;
a code that is mapped offers its announcement to the queue, and one that is not is counted unmapped. A pair that is
not declared changes only the history. -/
def Obligations.TelegramsAreCheckedCountedAndDeclared : Prop :=
  (∀ (g : Telegram) (s : State),
     let ones := ((List.range 6).filter fun b => g.code.val.testBit b).length
       + ((List.range 8).filter fun b => g.distance.val.testBit b).length + (if g.parity then 1 else 0)
     (s.loaded = false → exec (.telegram g) s = .next s)
     ∧ (s.loaded = true → g.framingError = true ∨ ones % 2 = 1 → s.steady →
         exec (.telegram g) s
           = .next { s with marker := { s.marker with parityErrors := min (s.marker.parityErrors + 1) 65535 } })
     ∧ (s.loaded = true → g.framingError = false → ones % 2 = 0 →
         ∃ (t : State) (rs : List Report), exec (.telegram g) s = .next t ∧ t.link = s.link.posts rs
           ∧ t.marker.telegrams = min (s.marker.telegrams + 1) 65535 ∧ t.marker.parityErrors = s.marker.parityErrors
           ∧ t.marker.history = (if s.marker.history.length < 10 then s.marker.history else s.marker.history.tail)
               ++ [{ code := g.code, distance := g.distance.val * 10 }]
           ∧ t.still = { s.still with marker := t.marker }))
  ∧ (∀ (g : Telegram) (s : State), s.loaded = true → goodTelegram g = true →
       let p : Pair := { code := g.code, distance := g.distance.val * 10 }
       let history := pushPair s.marker.history p
       let equals (n : Nat) : Nat := ((history.reverse.take n).filter fun q => decide (q = p)).length
       let m := { s.marker with telegrams := min (s.marker.telegrams + 1) 65535, history := history }
       let declares := (match s.marker.validation with
           | .fourOfFive => decide (4 ≤ equals 5)
           | .eightOfTen => decide (8 ≤ equals 10))
         && decide (s.marker.declared.map DeclaredPair.pair ≠ some p)
       let declared := { m with declared := some { pair := p, position := s.marker.odometer }
                                declarations := min (s.marker.declarations + 1) 65535 }
       ∃ t : State, exec (.telegram g) s = .next t
         ∧ t.marker = if declares = false then m else match s.marker.map.get g.code with
           | none => { declared with unmapped := min (s.marker.unmapped + 1) 65535 }
           | some what => (declared.offer what (s.marker.odometer + p.distance) .wayside).marker)

/-- What an offer to the Announcement Queue does: a near duplicate is refreshed, the nearest one, the earlier of two,
which keeps its id and takes the offered trigger and its place by it, while every other near one leaves the queue and
the rest stays; else an announcement that is due is handed on without a place; else it takes its place by trigger
where the queue has one, in the stead of the furthest entry where that lies further, and is refused where none does.
The entries that are then due leave the queue. A new entry takes the id counter's value where no entry holds it. -/
def Obligations.AnOfferRefreshesInsertsOrIsRefused : Prop :=
  ∀ (m : Marker) (what : Announced) (trigger : Nat) (source : Source),
    let at_ := min 4294967295 trigger
    let near (a : Announcement) : Prop := a.what = what ∧ a.trigger ≤ at_ + 50 ∧ at_ ≤ a.trigger + 50
    let o := m.offer what trigger source
    let due (a : Announcement) : Bool := decide (a.trigger ≤ m.odometer + m.lead a.what)
    let e : Announcement := { id := m.takeId, what := what, trigger := at_, source := source }
    let hop (a : Announcement) : Nat := (a.trigger - at_) + (at_ - a.trigger)
    ((∀ a ∈ m.queue, a.id ≠ m.nextId) → m.takeId = m.nextId)
    ∧ ((∃ a ∈ m.queue, near a) → ∃ old ∈ m.queue, near old ∧ o.outcome = .refreshed ∧ o.evicted = none
        ∧ (∀ a ∈ m.queue, near a → hop old ≤ hop a)
        ∧ (∀ a ∈ o.merged, a ∈ m.queue ∧ near a ∧ a.id ≠ old.id) ∧ o.marker.nextId = m.nextId
        ∧ ∃ n, o.entry = some n ∧ n.id = old.id ∧ n.what = what ∧ n.trigger = at_
            ∧ (n.source = .wayside ↔ source = .wayside ∨ old.source = .wayside ∨ ∃ a ∈ o.merged, a.source = .wayside))
    ∧ (∀ (l r a b : List Announcement) (old : Announcement), m.queue = l ++ old :: r → near old →
        (∀ x ∈ l, near x → hop old < hop x) → (∀ x ∈ r, near x → hop old ≤ hop x) → (∀ x ∈ l ++ r, x.id ≠ old.id) →
        ((l ++ r).filter fun x => !decide (near x)) = a ++ b →
        (∀ x ∈ a, x.trigger ≤ at_) → (∀ x, b.head? = some x → at_ < x.trigger) →
        let merged := (l ++ r).filter fun x => decide (near x)
        let wayside : Prop := source = .wayside ∨ old.source = .wayside ∨ ∃ x ∈ merged, x.source = .wayside
        let n : Announcement :=
          { id := old.id, what := what, trigger := at_, source := if wayside then .wayside else .routeData }
        o = { marker := { m with queue := (a ++ n :: b).filter fun x => !due x }, outcome := .refreshed, entry := some n
              evicted := none, merged := merged, due := (a ++ n :: b).filter due })
    ∧ ((∀ a ∈ m.queue, ¬near a) → due e = true →
        o = { marker := { m with nextId := idAfter e.id }, outcome := .dueAtOnce, entry := some e, evicted := none,
              merged := [], due := [e] })
    ∧ (∀ a b, (∀ x ∈ m.queue, ¬near x) → due e = false → m.queue.length < 8 → m.queue = a ++ b →
        (∀ x ∈ a, x.trigger ≤ at_) → (∀ x, b.head? = some x → at_ < x.trigger) →
        o = { marker := { m with queue := (a ++ e :: b).filter fun x => !due x, nextId := idAfter e.id }
              outcome := .inserted, entry := some e, evicted := none, merged := [], due := (a ++ e :: b).filter due })
    ∧ (∀ l last, (∀ x ∈ m.queue, ¬near x) → due e = false → m.queue = l ++ [last] → 8 ≤ m.queue.length →
        (∀ a b, at_ < last.trigger → l = a ++ b → (∀ x ∈ a, x.trigger ≤ at_) →
          (∀ x, b.head? = some x → at_ < x.trigger) →
          let n : Announcement := { e with id := Marker.takeId { m with queue := l } }
          o = { marker := { m with queue := (a ++ n :: b).filter fun x => !due x, nextId := idAfter n.id }
                outcome := .inserted, entry := some n, evicted := some last, merged := []
                due := (a ++ n :: b).filter due })
        ∧ (last.trigger ≤ at_ → o = { marker := m, outcome := .refused, entry := none, evicted := none, merged := [],
                                      due := [] }))

/-- ANNOUNCE is checked in the order kind, parameter, ranges, and then offered to the queue: the reply carries what
the offer has done, FULL where it was refused, and MKR's state is the one the offer leaves. (That the kinds have the
numbers 1 to 6, and UNUSED 0, is log 9.) WITHDRAW removes the entry that has its id, answering with it, or answers
UNKNOWN_ID; it reports nothing. MARKER_SETUP sets the validation setting and keeps the history and the last declared
pair; any other value is refused OUT_OF_RANGE. -/
def Obligations.AnnounceWithdrawAndMarkerSetup : Prop :=
  (∀ (tag : Byte) (f : AnnounceFields) (s : State), s.ready →
     (f.kind = 0 ∨ 6 < f.kind → exec (.announce tag (.fields f)) s = .next (s.answered 0x14 tag (.refused .badKind)))
     ∧ ((f.kind = 1 ∨ f.kind = 2) ∧ f.parameter = none ∨ 3 ≤ f.kind ∧ f.kind ≤ 6 ∧ f.parameter ≠ none →
         exec (.announce tag (.fields f)) s = .next (s.answered 0x14 tag (.refused .fieldMismatch)))
     ∧ (∀ n, f.parameter = some n → f.kind = 1 ∧ (n = 0 ∨ 8 < n) ∨ f.kind = 2 ∧ (n = 0 ∨ 2000 < n) →
         exec (.announce tag (.fields f)) s = .next (s.answered 0x14 tag (.refused .outOfRange)))
     ∧ ∀ what : Announced,
         (match what with
           | .systemAhead i => f.kind = 1 ∧ f.parameter = some (i.val + 1)
           | .neutralAhead n => f.kind = 2 ∧ f.parameter = some n ∧ 1 ≤ n ∧ n ≤ 2000
           | .lowerZone => f.kind = 3 ∧ f.parameter = none
           | .lowerZoneEnd => f.kind = 4 ∧ f.parameter = none
           | .icePermit => f.kind = 5 ∧ f.parameter = none
           | .iceForbid => f.kind = 6 ∧ f.parameter = none) →
         (20000 < f.distance →
           exec (.announce tag (.fields f)) s = .next (s.answered 0x14 tag (.refused .outOfRange)))
         ∧ (f.distance ≤ 20000 →
             let o := s.marker.offer what (s.marker.odometer + f.distance) .routeData
             ∃ (t : State) (rs : List Report), exec (.announce tag (.fields f)) s = .next t
               ∧ t.marker = o.marker ∧ t.still = { s.still with marker := o.marker }
               ∧ t.link = (s.answered 0x14 tag (match o.entry with
                   | some e => .ok (.announced
                       { outcome := o.outcome, id := e.id, trigger := e.trigger, source := e.source,
                         evicted := o.evicted.map Announcement.id, merged := o.merged.map Announcement.id })
                   | none => .full)).link.posts rs))
  ∧ ((∀ (tag : Byte) (id : Nat) (s : State), s.ready →
      ((∀ a ∈ s.marker.queue, a.id ≠ id) →
        exec (.withdraw tag (.fields id)) s = .next (s.answered 0x15 tag .unknownId))
      ∧ ∀ (l r : List Announcement) (a : Announcement), s.marker.queue = l ++ a :: r → a.id = id →
          (∀ b ∈ l, b.id ≠ id) →
          exec (.withdraw tag (.fields id)) s
            = .next { s with link := (s.answered 0x15 tag (.ok (.withdrawn a))).link
                             marker := { s.marker with queue := l ++ r } })
   ∧ (∀ (tag : Byte) (n : Nat) (s : State), s.ready →
        (∀ v : Validation, Validation.all[n]? = some v → exec (.markerSetup tag (.fields n)) s
          = .next { s with link := (s.answered 0x17 tag (.ok (.validation v))).link
                           marker := { s.marker with validation := v } })
        ∧ (2 ≤ n → exec (.markerSetup tag (.fields n)) s = .next (s.answered 0x17 tag (.refused .outOfRange)))))

/-! ### PAN: pantographs (chapter 4) -/

/-- The twelve raise conditions in their order: the first that fails gives the reason. -/
def Obligations.TheRaiseConditionsInOrder : Prop :=
  ∀ (s : State) (p : PanId),
    let r := s.pan p
    let raised (q : PanId) : Bool :=
      decide ((s.pan q).state = .rising) || decide ((s.pan q).state = .up) || decide ((s.pan q).state = .dipping)
    let conditions : List (Bool × ClaimReason) :=
      [(r.fitted, .because .unfitted),
       ((s.descriptor r.inForce.system).isSome, .because .noSystem),
       (!s.ifu.earthed, .because .earthed),
       (!s.ifu.airLow, .because .airLow),
       (!r.inputs.breach, .because .stripBreach),
       (decide (s.outputs.mode = .run), .mode),
       (!s.ifu.backfeed, .because .backfeed),
       (!s.path.lowerZone, .because .lowerZone),
       (decide (s.ice.levels.get p ≠ .severe), .because .iceSevere),
       ((s.descriptor r.inForce.system).any fun d =>
          decide ((allPans.filter fun q => decide (q ≠ p) && raised q).length < d.maxRaised), .because .limit),
       (allPans.all fun q => decide (q = p) || !raised q || decide ((s.pan q).inForce.system = r.inForce.system),
          .because .mixedSystem),
       ((match s.path.state with
          | .isolated | .faulted _ => true
          | _ => decide (r.inForce.system = s.path.target)), .because .wrongSystem)]
    s.raiseRefusal p = (conditions.find? fun c => !c.1).map Prod.snd

/-- RAISE by the state of its pan. An accepted one takes the pan to RISING with want LINK and its raise timer started,
and commands its valve on at the effective force; where the path is in a state in which a pan that leaves DOWN moves
nothing there, that, the claim record, the reply and the report are all that changes. -/
def Obligations.RaiseIsDecidedByTheState : Prop :=
  ∀ (tag : Byte) (n : Nat) (s : State), s.ready →
    let gives (r : Result) : Prop := exec (.raise tag (.fields n)) s = .next (s.answered 0x1C tag r)
    (s.held = true → gives .mode)
    ∧ (s.held = false → n = 0 ∨ 4 < n → gives (.refused .badPan))
    ∧ ∀ p : PanId, s.held = false → n = p.val + 1 →
        ((s.pan p).state = .rising ∨ (s.pan p).state = .up → gives (.ok (.panState (s.pan p).state)))
        ∧ ((s.pan p).state = .dipping ∨ (s.pan p).state = .falling ∨ (s.pan p).state = .dropping → gives .busy)
        ∧ ((s.pan p).state = .tripped → gives (.refused .tripped))
        ∧ ((s.pan p).state = .down → (s.pan p).hold ≠ .none → gives .busy)
        ∧ (∀ w, (s.pan p).state = .down → (s.pan p).hold = .none → s.raiseRefusal p = some w →
            gives (match w with
              | .because r => .refused r
              | .mode => .mode
              | .busy => .busy))
        ∧ ((s.pan p).state = .down → (s.pan p).hold = .none → s.raiseRefusal p = none →
            ∃ (t : State) (rs : List Report), exec (.raise tag (.fields n)) s = .next t
              ∧ t.link = (s.answered 0x1C tag (.ok (.panState .rising))).link.posts rs ∧ t.still = s.still
              ∧ (s.path.state = .isolated ∨ s.path.state = .selecting ∨ s.path.state = .closing ∨ s.path.state = .live
                  ∨ (∃ r, s.path.state = .opening r) ∨ s.path.state = .coasting .zone
                  ∨ (∃ c, s.path.state = .faulted c) →
                let r : Pan := { s.pan p with
                  state := .rising, want := .link, rising := 0, rate := (s.pan p).inForce.rate
                  timer := some { kind := .raise, remaining := match (s.pan p).inForce.rate with
                    | .normal => s.panTimes.raiseNormal
                    | .slow => s.panTimes.raiseSlow } }
                t.pan p = r ∧ t.outputs.commanded.rv.get p = some r.effective ∧ t.outputs.commanded.qv.get p = false
                ∧ (∀ q, q ≠ p → t.pan q = s.pan q)
                ∧ rs = [.panState { pan := p, state := .rising, previous := .down, cause := .request, want := .link,
                                    hold := .none, trip := r.trip, force := r.effective, failures := r.failures,
                                    lastRaise := r.lastRaise, refusal := none }]
                ∧ t = { s with link := t.link, pans := t.pans, outputs := t.outputs
                               path := { s.path with claims := t.path.claims } }))

/-- LOWER and DROP are checked as RAISE is and answered with the pan's state after them. LOWER takes a raised pan to
FALLING with its want kept, DROP a pan that is not down to DROPPING with trip cause LINK_DROP, and a pan in DOWN loses
its retry hold and its want, with neither the path nor another pan moved (for a PATH want: log 44). Of such an end
this is said with every list of programs where no pending profile commits at the pass point, and the HEAT of the armed
retry then goes on without it; where one commits, with every list whose other HEATs may heat. Where no program stands,
valve, vent, trip cause and timer follow whatever the path is in, and a pan that keeps its state leaves the path as it
is. What the move does to the path where no program stands: in AWAIT_LINE the path closes where the closing condition
then holds, and is isolated with NO_PAN_FOR_SYSTEM where the connection is lost; CLOSING and LIVE open, OPENING(PAN),
when the last pan for the target leaves UP, and end in ISOLATED at once where the breaker reads open already; a coast
of NEUTRAL or LOSS is isolated with its pans withdrawn when that pan leaves, and else closes where it may; in CHANGING
a pan that is raised is lowered again (what a pan brings about there that comes down is O36); in every other case the
path and the other pans stay. (That a path whose breaker reads closed goes on from CLOSING to LIVE at once is log 14.
That a report of the path which a pan's move brings about has the cause PAN, also for a connection that is lost, is
log 21.) -/
def Obligations.LowerAndDropMoveThePan : Prop :=
  ∀ (tag : Byte) (n : Nat) (drop : Bool) (s : State), s.ready →
    let i : Instr := if drop then .drop tag (.fields n) else .lower tag (.fields n)
    let code : Byte := if drop then 0x1E else 0x1D
    (s.held = true → exec i s = .next (s.answered code tag .mode))
    ∧ (s.held = false → n = 0 ∨ 4 < n → exec i s = .next (s.answered code tag (.refused .badPan)))
    ∧ ∀ p : PanId, s.held = false → n = p.val + 1 →
        let new : PanState := match (s.pan p).state, drop with
          | .rising, false | .up, false | .dipping, false => .falling
          | .rising, true | .up, true | .dipping, true | .falling, true => .dropping
          | u, _ => u
        ∃ (t : State) (rs : List Report), exec i s = .next t ∧ t.still = s.still
          ∧ t.link = (s.answered code tag (.ok (.panState new))).link.posts rs
          ∧ (s.ice.programs = [] → (t.pan p).state = new
              ∧ (new = (s.pan p).state → t.path = s.path)
              ∧ (new ≠ (s.pan p).state → s.pathFollows t p new rs
                  ∧ t.outputs.commanded.rv.get p = none ∧ t.outputs.commanded.qv.get p = drop
                  ∧ (t.pan p).trip = (if drop then some .linkDrop else (s.pan p).trip)
                  ∧ (t.pan p).timer = some (if drop then { kind := .drop, remaining := s.panTimes.drop }
                      else { kind := .lower, remaining := s.panTimes.lower })))
          ∧ (s.path.state = .isolated → s.ice.programs = [] →
              (∀ q, q ≠ p → t.pan q = s.pan q)
              ∧ (new ≠ (s.pan p).state → (t.pan p).want = (s.pan p).want
                  ∧ (t.pan p).hold = (if drop then .none else (s.pan p).hold))
              ∧ ((s.pan p).state = .down ∧ (s.pan p).hold = .none ∨ (s.pan p).state = .dropping
                  ∨ (s.pan p).state = .tripped ∨ ((s.pan p).state = .falling ∧ drop = false) →
                t = s.answered code tag (.ok (.panState new))))
          ∧ ((s.pan p).state = .down → (s.pan p).hold ≠ .none →
              (((s.pan p).want ≠ .path ∨ s.store.marks.get p = false) →
                  t.pan p = { s.pan p with want := .none, hold := .none } ∧ (∀ q, q ≠ p → t.pan q = s.pan q)
                  ∧ t.path = s.path ∧ t.ice.levels = s.ice.levels
                  ∧ t.ice.programs = s.ice.programs.map fun g => if g.pan = p then { g with armed := false } else g)
              ∧ ((∀ h ∈ s.ice.programs, h.kind = .heat → h.pan = p ∨ s.heatable h) →
                  (t.pan p).state = .down ∧ (t.pan p).want = .none ∧ (t.pan p).hold = .none
                  ∧ (∀ q, q ≠ p → t.pan q = s.pan q) ∧ t.path = s.path))

/-- RESET_TRIP is refused outside TRIPPED, and in TRIPPED by the breach, the air and the head in that order. Accepted,
it clears the pan's trip cause and failures, leaves the quick-drop valve unpowered, and ends the pan's STRIP_BREACH
and AIR_LOSS conditions, whatever the path is in and whatever programs stand. The pan is in DOWN, unless it is the
last one of a CHANGING to come down, where the path may raise it at once. Its want ends, but for one that a retry hold
keeps. Where no program stands the path takes the pan's DOWN as it takes every move of a pan (at once to LIVE where
the breaker reads closed: log 14; that its reports then have the cause PAN, also for a connection that is lost: log
21); where the path is ISOLATED then, the other pans stay. -/
def Obligations.ResetTripBringsThePanDown : Prop :=
  ∀ (tag : Byte) (n : Nat) (s : State), s.ready →
    let gives (r : Result) : Prop := exec (.resetTrip tag (.fields n)) s = .next (s.answered 0x1F tag r)
    (s.held = true → gives .mode)
    ∧ (s.held = false → n = 0 ∨ 4 < n → gives (.refused .badPan))
    ∧ ∀ p : PanId, s.held = false → n = p.val + 1 →
        let i := (s.pan p).inputs
        ((s.pan p).state ≠ .tripped → gives (.refused .notTripped))
        ∧ ((s.pan p).state = .tripped → i.breach = true → gives (.refused .stripBreach))
        ∧ ((s.pan p).state = .tripped → i.breach = false → s.ifu.airLow = true → gives (.refused .airLow))
        ∧ ((s.pan p).state = .tripped → i.breach = false → s.ifu.airLow = false →
            i.headDown = false ∨ i.headUp = true → gives (.refused .headNotDown))
        ∧ ((s.pan p).state = .tripped → i.breach = false → s.ifu.airLow = false → i.headDown = true →
            i.headUp = false →
            ∃ (t : State) (rs : List Report), exec (.resetTrip tag (.fields n)) s = .next t ∧ t.still = s.still
              ∧ t.link = (s.answered 0x1F tag (.ok .nothing)).link.posts rs
              ∧ (t.pan p).trip = none ∧ (t.pan p).failures = 0 ∧ t.outputs.commanded.qv.get p = false
              ∧ (s.ifu.sound → ∀ e ∈ t.ifu.faults, e.subject = .pan p → e.kind = .stripBreach ∨ e.kind = .airLoss →
                  e.state = .clearedUnack)
              ∧ (s.ice.programs = [] → s.pathFollows t p .down rs)
              ∧ (let last : Prop := (∃ j, s.path.state = .changing j)
                   ∧ ∀ q, q ≠ p → (s.pan q).fitted = true → (s.pan q).state = .down ∨ (s.pan q).state = .tripped
                 (last → (t.pan p).state = .down ∨ (t.pan p).state = .rising)
                 ∧ (¬last → (t.pan p).state = .down ∧ t.outputs.commanded.rv.get p = none
                     ∧ ((s.pan p).hold = .none → (t.pan p).want = .none)
                     ∧ (s.ice.programs = [] → (s.pan p).hold ≠ .none → (t.pan p).want = (s.pan p).want))
                 ∧ (¬last → ¬(s.path.state = .awaitLine ∧ (s.panMovedTo p .down).unconnected) →
                     s.path.state ≠ .awaitLine ∨ (∀ h ∈ s.ice.programs, h.kind = .heat → s.heatable h) →
                     t.ifu = (s.ifu.endOf .stripBreach (.pan p)).endOf .airLoss (.pan p)))
              ∧ (s.path.state = .isolated → s.ice.programs = [] → ∀ q, q ≠ p → t.pan q = s.pan q))

/-- A change of a pan's input. While the jobs do not run, and for an unfitted pan, it changes the line alone. Else the
pan takes the new level, and moves as its state's rule has it; a trip raises its fault. (That a level taken again is
an event, and that a breach trips at its own event only, is log 20; that it drops a pan in FALLING also where
head-down reads true already is log 66; that the time of a raise is at least 1 ms is log 4, and that a head lost in
CLAMP trips where AOS drives the valve at the commanded value only log 31.) A pan that keeps its state leaves the path
as it is. What the move does to the path where no program stands: in AWAIT_LINE the path closes where the closing
condition then holds, and is isolated with NO_PAN_FOR_SYSTEM where the connection is lost; CLOSING and LIVE open,
OPENING(PAN), when the last pan for the target leaves UP, and end in ISOLATED at once where the breaker reads open
already; a coast of NEUTRAL or LOSS is isolated with its pans withdrawn when that pan leaves, and else closes where it
may; in CHANGING a pan that is raised is lowered again (what a pan brings about there that comes down is O36); in
every other case the path and the other pans stay. (That a path whose breaker reads closed goes on from CLOSING to
LIVE at once is log 14. That a report of the path which a pan's move brings about has the cause PAN, also for a
connection that is lost, is log 21.) (A trip that escalates to SAFE is left out of this.) -/
def Obligations.APanTakesItsInputs : Prop :=
  ∀ (p : PanId) (k : PanInput) (level : Bool) (s : State), s.steady →
    let set (i : PanInputs) : PanInputs := match k with
      | .headUp => { i with headUp := level }
      | .headDown => { i with headDown := level }
      | .contact => { i with contact := level }
      | .breach => { i with breach := level }
    let lines := { s.lines with pans := put s.lines.pans p (set (s.lines.pans.get p)) }
    let i := set (s.pan p).inputs
    let breached : Prop := k = .breach ∧ level = true
    let down : Prop := i.headDown = true ∧ i.headUp = false
    let up : Prop := i.headUp = true ∧ i.headDown = false
    (s.jobsRun = false ∨ (s.pan p).fitted = false →
      exec (.panInputChange p k level) s = .next { s with lines := lines })
    ∧ (s.jobsRun = true → (s.pan p).fitted = true → ∃ (t : State) (rs : List Report),
        exec (.panInputChange p k level) s = .next t ∧ t.lines = lines ∧ t.link = s.link.posts rs
        ∧ t.still = { s.still with lines := lines }
        ∧ (let touches : Prop := up ∧ i.contact = true
           let new : PanState := match (s.pan p).state with
             | .down => if down then .down else .falling
             | .rising => if breached then .dropping else if touches then .up else .rising
             | .up => if breached then .dropping else if up then .up
               else if s.outputs.mode = .run
                 ∨ (s.outputs.mode = .clamp ∧ s.outputs.preload.rv.get p = some (s.pan p).effective) then .dropping
               else .falling
             | .dipping => if breached then .dropping
               else if (s.pan p).timer.map PanTimer.kind = some .dipRegain ∧ touches then .up else .dipping
             | .falling => if breached then .dropping else if down then .down else .falling
             | .dropping => if down then .tripped else .dropping
             | .tripped => .tripped
           (new = (s.pan p).state → t.path = s.path ∧ rs = []
             ∧ t.pans = put s.pans p { s.pan p with inputs := i })
           ∧ (new ≠ (s.pan p).state → s.ice.programs = [] →
               (new = .dropping → s.ifu.escalates (if breached then .stripBreach else .airLoss) (.pan p) = false) →
               (t.pan p).inputs = i ∧ { s with lines := lines }.pathFollows t p new rs))
        ∧ (s.path.state = .isolated → s.ice.programs = [] →
            (t.pan p).inputs = i
            ∧ ((s.pan p).state = .down → down → t.pan p = { s.pan p with inputs := i })
            ∧ ((s.pan p).state = .down → ¬down → (t.pan p).state = .falling ∧ (t.pan p).want = (s.pan p).want
                ∧ (t.pan p).hold = (s.pan p).hold ∧ (t.pan p).timer = some { kind := .lower,
                                                                               remaining := s.panTimes.lower })
            ∧ ((s.pan p).state = .rising ∨ (s.pan p).state = .up ∨ (s.pan p).state = .dipping
                ∨ (s.pan p).state = .falling → breached →
                (t.pan p).state = .dropping ∧ (t.pan p).trip = some .stripBreach ∧ (t.pan p).hold = .none
                ∧ t.ifu = s.ifuRaised .stripBreach (.pan p)
                ∧ t.outputs.mode = s.modeAfter .stripBreach (.pan p))
            ∧ ((s.pan p).state = .rising → ¬breached → up → i.contact = true →
                (t.pan p).state = .up ∧ (t.pan p).failures = 0 ∧ (t.pan p).want = (s.pan p).want
                ∧ (t.pan p).lastRaise = some (max 1 (min 65535 (s.pan p).rising)))
            ∧ ((s.pan p).state = .rising → ¬breached → ¬(up ∧ i.contact = true) →
                t.pan p = { s.pan p with inputs := i })
            ∧ ((s.pan p).state = .up → ¬breached → up → t.pan p = { s.pan p with inputs := i })
            ∧ ((s.pan p).state = .up → ¬breached → ¬up →
                (s.outputs.mode = .run → (t.pan p).state = .dropping ∧ (t.pan p).trip = some .airLoss
                  ∧ (t.pan p).quality = 0 ∧ (t.pan p).ice = 0 ∧ t.ifu = s.ifuRaised .airLoss (.pan p)
                  ∧ t.outputs.mode = s.modeAfter .airLoss (.pan p))
                ∧ (s.outputs.mode = .safe → (t.pan p).state = .falling ∧ (t.pan p).quality = 0
                  ∧ (t.pan p).ice = 0 ∧ t.ifu = s.ifu))
            ∧ ((s.pan p).state = .dipping → ¬breached →
                let regained := (s.pan p).timer.map PanTimer.kind = some .dipRegain ∧ up ∧ i.contact = true
                (regained → (t.pan p).state = .up) ∧ (¬regained → t.pan p = { s.pan p with inputs := i }))
            ∧ ((s.pan p).state = .falling → ¬breached →
                (if down then (t.pan p).state = .down ∧ (t.pan p).trip = none ∧ (t.pan p).timer = none
                    ∧ (t.pan p).want = (if (s.pan p).hold = .none then .none else (s.pan p).want)
                    ∧ t.ifu = s.ifu.endOf .lowerTimeout (.pan p)
                 else t.pan p = { s.pan p with inputs := i }))
            ∧ ((s.pan p).state = .dropping →
                (if down then (t.pan p).state = .tripped ∧ (t.pan p).want = .none ∧ (t.pan p).trip = (s.pan p).trip
                    ∧ t.ifu = s.ifu.endOf .lowerTimeout (.pan p)
                 else t.pan p = { s.pan p with inputs := i }))
            ∧ ((s.pan p).state = .tripped → t.pan p = { s.pan p with inputs := i })))

/-- The raise timeout: whatever the path is in, the pan falls, its failures rise and RAISE_TIMEOUT is raised. At the
first failure ICE answers: it declines where the pan's policy is not AUTO, the pan has a program, the list holds two,
or the pan has no head zone that may heat, and want and hold end; else it heats the pan, the hold is ARMED and the
want kept, and with it the claim that is live. At the second both end at once. With a PATH want that ends, its live
claim is ENDED. The ice level is HEAVY after the first, SEVERE after the second, and SEVERE stays. The path then tests
what the pan's move leaves it: in AWAIT_LINE, or in a coast that may close, it closes where the closing condition now
holds (at once to LIVE where the breaker reads closed: log 14); in AWAIT_LINE the connection is lost where no claim is
live and no pan for it rises or is up, and the path is ISOLATED with NO_PAN_FOR_SYSTEM; else it stays. In AWAIT_LINE a
pan that comes down with its hold keeps its want, and its claim is HELD. (What is said of want, hold, program and path
leaves out a list with a DIP, or with a HEAT whose head zone may not heat, as the path's move could end it in the same
step.) (That the timeout acts whatever time its timer still has is log 5, and that a pan that nobody wants sets no
hold log 18. That a report of the path which a pan's move brings about has the cause PAN, also for a connection that
is lost, is log 21.) -/
def Obligations.ARaiseTimesOut : Prop :=
  ∀ (p : PanId) (s : State),
    let head (z : ZoneId) : Prop := (s.ice.zones.get z).fitted = true ∧ (s.ice.zones.get z).location = .panHead p
    let heats : Prop := (s.pan p).inForce.policy = .auto
      ∧ ∃ z, head z ∧ (∀ i, i < z → ¬head i) ∧ (s.ice.zones.get z).state ≠ .faulted ∧ (s.ice.zones.get z).mode ≠ .off
    ((s.jobsRun = false ∨ ∀ n, (s.pan p).timer ≠ some { kind := .raise, remaining := n }) → s.steady →
      exec (.raiseTimeout p) s = .next s)
    ∧ (∀ n, s.jobsRun = true → (s.pan p).state = .rising → (s.pan p).timer = some { kind := .raise, remaining := n } →
        ((∃ j, s.path.state = .changing j) → (s.pan p).fitted = true) →
        let r := s.pan p
        let full : Prop := (∃ g ∈ s.ice.programs, g.pan = p) ∨ 2 ≤ s.ice.programs.length
        let ends : Prop := r.failures ≠ 0 ∨ full ∨ ¬heats
        let claim := s.path.claims.get p
        let m := s.withPan p .falling (if ends then .none else r.want)
          (if ends ∨ r.want = .none then .none else .armed)
          (if ends ∧ r.want = .path ∧ claim.isLive = true then .ended else claim)
        let allHeat : Prop := ∀ h ∈ s.ice.programs, h.kind = .heat → s.heatable h
        let noDip : Prop := ∀ h ∈ s.ice.programs, h.kind ≠ .dip
        ∃ (t : State) (rs : List Report), exec (.raiseTimeout p) s = .next t ∧ t.link = s.link.posts rs
          ∧ t.still = s.still ∧ (t.pan p).state = .falling ∧ (t.pan p).failures = min 2 (r.failures + 1)
          ∧ (s.path.state = .isolated ∨ allHeat →
              (t.pan p).want = (m.pan p).want ∧ (t.pan p).hold = (m.pan p).hold)
          ∧ t.outputs.commanded.rv.get p = none ∧ t.outputs.commanded.qv.get p = false
          ∧ (t.pan p).timer = some { kind := .lower, remaining := s.panTimes.lower }
          ∧ rs.any (Report.raises .raiseTimeout (.pan p)) = true
          ∧ (noDip → allHeat → m.pathTests t rs
              ∧ (¬(s.path.state = .awaitLine ∧ m.unconnected) → t.ifu = s.ifuRaised .raiseTimeout (.pan p)))
          ∧ t.ice.levels = put s.ice.levels p
              (if r.failures = 0 ∧ s.ice.levels.get p ≠ .severe then .heavy else .severe)
          ∧ (¬ends → s.path.state = .isolated ∨ allHeat → ∃ l g, t.ice.programs = l ++ [g] ∧ g.pan = p ∧ g.kind = .heat ∧ g.origin = .auto ∧ g.armed = true
              ∧ g.progress = (if s.ice.levels.get p = .severe then 180000 else 120000)
              ∧ (s.ice.programs = [] → l = []))
          ∧ (s.ice.programs = [] → (ends → t.ice.programs = []) ∧ m.keepsPans t)
          ∧ (s.calm → ∀ q, q ≠ p → t.pan q = s.pan q))
    ∧ (s.jobsRun = true → s.path.state = .awaitLine → (s.pan p).fitted = true → (s.pan p).state = .falling →
        (s.pan p).want = .path → (s.pan p).hold ≠ .none → (s.pan p).inputs.headUp = false →
        s.path.claims.get p = .taken → ¬s.closes →
        ∃ (t : State) (rs : List Report), exec (.panInputChange p .headDown true) s = .next t
          ∧ t.link = s.link.posts rs ∧ (t.pan p).state = .down ∧ (t.pan p).want = .path
          ∧ (t.pan p).hold = (s.pan p).hold ∧ t.path = { s.path with claims := put s.path.claims p .held })

/-- Whatever the path is in: the lower and the drop timeout raise LOWER_TIMEOUT, stop their timer and leave the pan in
its state, with the valves driven as before; a second TRIP condition takes AOS to SAFE. A dip: at the pulse's end the
valve is commanded on and the regain runs, or the pan is UP at once where it touches the wire (in CHANGING it is
lowered again); where the regain expires first, the pan falls and RAISE_TIMEOUT is raised, with failures and hold as
they were. Where no program stands the path follows the pan's move (at once from CLOSING to LIVE where the breaker
reads closed: log 14). A DIP program whose dip is done counts it: after the last it is COMPLETED, else it sends the
next dip where its conditions hold and waits where they do not; a failed dip ends it ABORTED, and one that its pan has
left is not counted and leaves it WAITING. This is said where the pan's move leaves the path as it is. (That each of
these timers' ends acts whatever time its timer still has is log 5. That a report of the path which a pan's move
brings about has the cause PAN, also for a connection that is lost, is log 21.) -/
def Obligations.LoweringAndDipsTimeOut : Prop :=
  (∀ (p : PanId) (dropping : Bool) (s : State),
     let i : Instr := if dropping then .dropTimeout p else .lowerTimeout p
     let kind : PanTimerKind := if dropping then .drop else .lower
     let state : PanState := if dropping then .dropping else .falling
     ((s.jobsRun = false ∨ ∀ n, (s.pan p).timer ≠ some { kind := kind, remaining := n }) → s.steady →
       exec i s = .next s)
     ∧ ∀ n, s.jobsRun = true → (s.pan p).state = state → (s.pan p).timer = some { kind := kind, remaining := n } →
         ∃ (t : State) (rs : List Report), exec i s = .next t ∧ t.link = s.link.posts rs ∧ t.still = s.still
           ∧ (t.pan p).state = state ∧ (t.pan p).timer = none ∧ t.outputs.commanded.rv.get p = none
           ∧ t.outputs.commanded.qv.get p = dropping
           ∧ rs.any (Report.raises .lowerTimeout (.pan p)) = true
           ∧ t.outputs.mode = s.modeAfter .lowerTimeout (.pan p)
           ∧ (s.ifu.escalates .lowerTimeout (.pan p) = false ∨ s.path.state = .isolated →
               t.ifu = s.ifuRaised .lowerTimeout (.pan p))
           ∧ (s.ifu.escalates .lowerTimeout (.pan p) = false →
               t.pan p = { s.pan p with timer := none } ∧ (∀ q, q ≠ p → t.pan q = s.pan q) ∧ t.path = s.path
               ∧ t.ice.programs = s.ice.programs))
  ∧ (∀ (p : PanId) (s : State),
       ((s.jobsRun = false ∨ ∀ n, (s.pan p).timer ≠ some { kind := .dipPulse, remaining := n }) → s.steady →
         exec (.dipPulseEnd p) s = .next s)
       ∧ ((s.jobsRun = false ∨ ∀ n, (s.pan p).timer ≠ some { kind := .dipRegain, remaining := n }) → s.steady →
         exec (.dipRegainExpiry p) s = .next s)
       ∧ ∀ n, s.jobsRun = true → (s.pan p).state = .dipping →
           ((s.pan p).timer = some { kind := .dipPulse, remaining := n } →
             let regain : PanTimer := { kind := .dipRegain, remaining := s.panTimes.dipRegain }
             let touches : Prop := (s.pan p).inputs.headUp = true ∧ (s.pan p).inputs.headDown = false
               ∧ (s.pan p).inputs.contact = true
             ∃ (t : State) (rs : List Report), exec (.dipPulseEnd p) s = .next t ∧ t.link = s.link.posts rs
               ∧ t.still = s.still
               ∧ (¬touches → t.pan p = { s.pan p with timer := some regain }
                   ∧ t.outputs.commanded.rv.get p = some (t.pan p).effective ∧ t.path = s.path ∧ rs = []
                   ∧ t.ice.programs = s.ice.programs ∧ ∀ q, q ≠ p → t.pan q = s.pan q)
               ∧ (touches → (∃ m, .panState m ∈ rs ∧ m.pan = p ∧ m.previous = .dipping ∧ m.state = .up)
                   ∧ ((∀ j, s.path.state ≠ .changing j) → (∀ g ∈ s.ice.programs, g.pan = p → g.kind ≠ .dip) →
                       (t.pan p).state = .up ∧ (t.pan p).timer = none
                       ∧ t.outputs.commanded.rv.get p = some (t.pan p).effective)
                   ∧ (s.ice.programs = [] → s.pathFollows t p .up rs))
               ∧ (s.calm → ∀ q, q ≠ p → t.pan q = s.pan q))
           ∧ ((s.pan p).timer = some { kind := .dipRegain, remaining := n } →
             ((∃ j, s.path.state = .changing j) → (s.pan p).fitted = true) →
             let own : Prop := ∀ g ∈ s.ice.programs, g.armed = false ∧ (g.kind = .dip → g.pan = p)
             ∃ (t : State) (rs : List Report), exec (.dipRegainExpiry p) s = .next t ∧ t.link = s.link.posts rs
               ∧ t.still = s.still ∧ (t.pan p).state = .falling ∧ (t.pan p).failures = (s.pan p).failures
               ∧ (t.pan p).timer = some { kind := .lower, remaining := s.panTimes.lower }
               ∧ t.outputs.commanded.rv.get p = none ∧ t.outputs.commanded.qv.get p = false
               ∧ (own → (t.pan p).want = (s.pan p).want ∧ (t.pan p).hold = (s.pan p).hold)
               ∧ rs.any (Report.raises .raiseTimeout (.pan p)) = true
               ∧ (own → ¬(s.path.state = .awaitLine ∧ (s.panMovedTo p .falling).unconnected) →
                   t.ifu = s.ifuRaised .raiseTimeout (.pan p))
               ∧ (s.ice.programs = [] → s.pathFollows t p .falling rs)
               ∧ (s.calm → ∀ q, q ≠ p → t.pan q = s.pan q)))
  ∧ (∀ (p : PanId) (g : Program) (s : State), s.jobsRun = true →
       s.ice.programs = [g] → g.pan = p → g.kind = .dip → g.inFlight = true → g.armed = false → g.state ≠ .paused →
       (s.pan p).state = .dipping →
       let kept (u : PanState) : Prop := ¬(s.panMovedTo p u).closes
         ∧ (s.path.state = .awaitLine → ¬(s.panMovedTo p u).unconnected)
       let covered : Prop := s.path.state ≠ .live
         ∨ ∃ q, q ≠ p ∧ (s.pan q).state = .up ∧ (s.pan q).inForce.system = (s.pan p).inForce.system
       let waiting : Program := { g with state := .waiting, inFlight := false
                                         wait := if g.state = .waiting then g.wait else some 60000 }
       let ended (g : Program) (state : ProgramState) (how : ProgramEnd) : Report :=
         .iceProgram { program := g, previous := some state, ended := some how }
       (∀ (i : Instr) (n : Nat),
          (i = .dipPulseEnd p ∧ (s.pan p).timer = some { kind := .dipPulse, remaining := n }
              ∧ (s.pan p).inputs.contact = true)
            ∨ (i = .panInputChange p .contact true ∧ (s.pan p).timer = some { kind := .dipRegain, remaining := n }
              ∧ (s.pan p).fitted = true) →
          (s.pan p).inputs.headUp = true → (s.pan p).inputs.headDown = false →
          (∀ j, s.path.state ≠ .changing j) → kept .up →
          (s.path.state = .closing ∨ (∃ k, s.path.state = .coasting k) →
            ∃ q, q ≠ p ∧ (s.pan q).state = .up ∧ (s.pan q).inForce.system = s.path.target) →
          ∃ (t : State) (rs : List Report), exec i s = .next t ∧ t.link = s.link.posts rs
            ∧ (∀ q, q ≠ p → t.pan q = s.pan q)
            ∧ (g.progress ≤ 1 → t.ice.programs = [] ∧ (t.pan p).state = .up
                ∧ ended { g with progress := 0, inFlight := false } g.state .completed ∈ rs)
            ∧ (1 < g.progress → covered →
                t.ice.programs = [{ g with state := .running, progress := g.progress - 1, wait := none }]
                ∧ (t.pan p).state = .dipping ∧ t.outputs.commanded.rv.get p = none
                ∧ (t.pan p).timer = some { kind := .dipPulse, remaining := s.panTimes.dipPulse })
            ∧ (1 < g.progress → ¬covered →
                t.ice.programs = [{ waiting with progress := g.progress - 1 }] ∧ (t.pan p).state = .up))
       ∧ (∀ n, (s.pan p).timer = some { kind := .dipRegain, remaining := n } →
            ((∃ j, s.path.state = .changing j) → (s.pan p).fitted = true) → kept .falling →
            ∃ (t : State) (rs : List Report), exec (.dipRegainExpiry p) s = .next t ∧ t.link = s.link.posts rs
              ∧ (∀ q, q ≠ p → t.pan q = s.pan q) ∧ (t.pan p).state = .falling ∧ t.ice.programs = []
              ∧ ended g g.state (.aborted .dipFailed) ∈ rs)
       ∧ ∀ tag : Byte, s.ready → ∃ t : State, exec (.lower tag (.fields (p.val + 1))) s = .next t
            ∧ (∀ q, q ≠ p → t.pan q = s.pan q) ∧ (t.pan p).state = .falling ∧ t.ice.programs = [waiting])

/-! ### CHG: the path (chapter 5) -/

/-- CONNECT: MODE, BUSY and BAD_INDEX first, then AUTO resolved to a system, then the checks of a system in their
order. Accepted, it takes the selector step for that system, whose report is the first that follows the reply. Where
the selector has to move, the path is in SELECTING, driving it. The eligible pans are claimed, those raised first and
each group by rank and number, up to the system's max raised: every claimed pan that may rise is raised for the path,
one raised already is taken over, and a pan that is not claimed stays as it is. The order holds whatever the ranks are.
(That 0xFF asks for AUTO is log 9.) -/
def Obligations.ConnectTakesTheSelectorStep : Prop :=
  ∀ (tag : Byte) (n : Nat) (s : State), s.ready →
    let gives (r : Result) : Prop := exec (.connect tag (.fields n)) s = .next (s.answered 0x24 tag r)
    let fit (p : PanId) : Prop := (s.pan p).fitted = true ∧ (s.pan p).state ≠ .tripped
    let best (p : PanId) : Prop := fit p ∧ ∀ q, fit q →
      (s.pan p).rank < (s.pan q).rank ∨ ((s.pan p).rank = (s.pan q).rank ∧ p.val ≤ q.val)
    (s.held = true → gives .mode)
    ∧ (s.held = false → s.path.state ≠ .isolated → gives .busy)
    ∧ (s.held = false → s.path.state = .isolated →
      (n = 0 ∨ (8 < n ∧ n ≠ 255) → gives (.refused .badIndex))
      ∧ (n = 255 → s.path.expected = none → (∀ p, best p → (s.pan p).inForce.system = none) →
          gives (.refused .noSystem))
      ∧ ∀ i : SysId,
        n = i.val + 1 ∨ (n = 255 ∧ (s.path.expected = some i
          ∨ (s.path.expected = none ∧ ∃ p, best p ∧ (s.pan p).inForce.system = some i))) →
        let raised (p : PanId) : Bool :=
          decide ((s.pan p).state = .rising) || decide ((s.pan p).state = .up) || decide ((s.pan p).state = .dipping)
        let eligible (p : PanId) : Bool := (s.pan p).fitted && decide ((s.pan p).inForce.system = some i)
          && (decide ((s.pan p).state = .rising) || decide ((s.pan p).state = .up)
            || (decide ((s.pan p).state = .down) && decide (s.ice.levels.get p ≠ .severe)))
        let later (p : PanId) : Nat := if (s.pan p).state = .down then 1 else 0
        let before (q p : PanId) : Bool := decide (later q < later p) || (decide (later q = later p)
          && (decide ((s.pan q).rank < (s.pan p).rank)
            || (decide ((s.pan q).rank = (s.pan p).rank) && decide (q.val < p.val))))
        let taken (p : PanId) : Prop := eligible p = true ∧ ∃ d, s.store.descriptors.get i = some d
          ∧ (allPans.filter fun q => eligible q && before q p).length < d.maxRaised
        let conditions : List (Bool × Result) :=
          [((s.store.descriptors.get i).isSome, .refused .unknownSystem),
           (!s.ifu.earthed, .refused .earthed),
           (allPans.all fun p => !raised p || decide ((s.pan p).inForce.system = some i), .refused .conflict),
           (allPans.any fun p => (s.pan p).fitted && decide ((s.pan p).state ≠ .tripped)
              && decide ((s.pan p).inForce.system = some i) && decide (s.ice.levels.get p ≠ .severe), .refused .noPan),
           (!s.path.lowerZone, .refused .lowerZone),
           (decide (s.outputs.mode = .run), .mode),
           (!s.ifu.backfeed, .refused .backfeed)]
        (∀ r, (conditions.find? fun c => !c.1).map Prod.snd = some r → gives r)
        ∧ ((conditions.all Prod.fst) = true →
            let arrived := decide (s.lines.selector = (s.store.descriptors.get i).map Descriptor.selector)
            ∃ (t : State) (rs : List Report), exec (.connect tag (.fields n)) s = .next t ∧ t.still = s.still
              ∧ t.link = (s.answered 0x24 tag (.ok (.connected i))).link.posts (.pathState
                  { state := if arrived then .awaitLine else .selecting, previous := .isolated, target := some i,
                    present := none, coastEnd := none, lowerZone := s.path.lowerZone, expected := s.path.expected,
                    cause := .request, id := none, fault := none, changeRequired := false,
                    odometer := s.marker.odometer } :: rs)
              ∧ (arrived = false → s.ice.programs = [] →
                  t.path.state = .selecting ∧ t.path.target = some i ∧ t.path.expected = s.path.expected
                  ∧ t.path.timer = some { kind := .selector, remaining := s.pathTimes.selector }
                  ∧ t.outputs.commanded.bc = false
                  ∧ (∀ d, s.store.descriptors.get i = some d → t.outputs.commanded.sd = .to d.selector)
                  ∧ (∀ q, ¬taken q → t.pan q = s.pan q ∧ t.path.claims.get q = .none)
                  ∧ (∀ p, taken p → (s.pan p).state = .down → (s.pan p).hold = .none →
                      s.ifu.airLow = false → (s.pan p).inputs.breach = false → (∀ q, raised q = true → taken q) →
                      (t.pan p).state = .rising ∧ (t.pan p).want = .path ∧ t.path.claims.get p = .taken)
                  ∧ (∀ p, taken p → (s.pan p).state ≠ .down →
                      t.pan p = { s.pan p with want := .path } ∧ t.path.claims.get p = .taken))))

/-- ISOLATE by the path's state, and CLEAR_PATH. ISOLATE brings every path that neither opens nor is FAULTED to
ISOLATED, one that is CLOSING or LIVE through OPENING(REQUEST), where the breaker has to open first. Where no program
stands, the entry to ISOLATED withdraws the path's pans: one that is raised falls with its want kept, another that the
path wants is released, and their claims end with those that are SENT or REFUSED, while every other pan and claim
stays as it was; in SAFE the entry from OPENING lowers every pan and ends every claim. While the breaker has yet to
open, pans and claims stay. CLEAR_PATH brings a FAULTED path to ISOLATED once the breaker reads open and the selector
has arrived, and ends the selector's fault. SET_AUTO sets the auto changeover field and nothing else (0 and 1 for off
and on are log 9, and the refusal of another value log 10); READ_PATH carries the path record with what is computed
from it, the commanded and the fed-back values and the four parts of the closing condition, and changes nothing. (That
it shows the feedback as the lines stand, also while CHG is held, is log 68.) -/
def Obligations.IsolateClearSetAutoAndReadPath : Prop :=
  (∀ (tag : Byte) (s : State), s.ready →
     let isolate := exec (.isolate tag (.fields ())) s
     let clear := exec (.clearPath tag (.fields ())) s
     let ok (code : Byte) := s.answered code tag (.ok .nothing)
     let report (state : PathState) (target : Option SysId) : Report := .pathState
       { state := state, previous := s.path.state, target := target, present := none, coastEnd := none,
         lowerZone := s.path.lowerZone, expected := s.path.expected, cause := .request, id := none, fault := none,
         changeRequired := false, odometer := s.marker.odometer }
     (s.held = true → isolate = .next (s.answered 0x25 tag .mode) ∧ clear = .next (s.answered 0x27 tag .mode))
     ∧ (s.held = false →
       (s.path.state = .isolated → isolate = .next (ok 0x25))
       ∧ (∀ r c, s.path.state = .opening r ∨ s.path.state = .faulted c → isolate = .next (s.answered 0x25 tag .busy))
       ∧ (s.path.state = .selecting ∨ s.path.state = .awaitLine ∨ (∃ k, s.path.state = .coasting k)
             ∨ (∃ i, s.path.state = .changing i) →
           ∃ (t : State) (rs : List Report), isolate = .next t ∧ t.still = s.still
             ∧ t.link = (ok 0x25).link.posts (report .isolated none :: rs)
             ∧ t.path.state = .isolated ∧ t.path.target = none ∧ t.outputs.commanded.bc = false
             ∧ t.outputs.commanded.sd = .stop
             ∧ (s.ice.programs = [] → s.lowersPans t false ∧ s.withdrawsClaims t))
       ∧ (s.path.state = .closing ∨ s.path.state = .live →
           ∃ (t : State) (rs : List Report), isolate = .next t ∧ t.still = s.still
             ∧ t.link = (ok 0x25).link.posts (report (.opening .request) s.path.target :: rs)
             ∧ (s.lines.breakerClosed = false → t.path.state = .isolated ∧ t.path.target = none
                 ∧ t.outputs.commanded.bc = false
                 ∧ (s.ice.programs = [] → s.outputs.mode ≠ .safe → s.lowersPans t false ∧ s.withdrawsClaims t)
                 ∧ (s.ice.programs = [] → s.outputs.mode = .safe → s.lowersPans t true
                     ∧ ∀ q, t.path.claims.get q = .none))
             ∧ (s.lines.breakerClosed = true → s.ice.programs = [] → t.path.state = .opening .request
                 ∧ t.path.target = s.path.target ∧ t.outputs.commanded.bc = false ∧ t.outputs.commanded.bt = true
                 ∧ t.outputs.commanded.sd = .stop ∧ s.keepsPans t ∧ t.path.claims = s.path.claims))
       ∧ ((∀ c, s.path.state ≠ .faulted c) → clear = .next (ok 0x27))
       ∧ ∀ c, s.path.state = .faulted c →
           (s.lines.breakerClosed = true ∨ s.lines.selector = none →
             clear = .next (s.answered 0x27 tag (.refused .stillClosed)))
           ∧ (s.lines.breakerClosed = false → s.lines.selector ≠ none →
             ∃ (t : State) (rs : List Report), clear = .next t ∧ t.still = s.still
               ∧ t.link = (ok 0x27).link.posts (report .isolated none :: rs)
               ∧ t.path.state = .isolated ∧ t.path.target = none ∧ t.outputs.commanded.bc = false
               ∧ t.outputs.commanded.bt = false
               ∧ (s.ice.programs = [] → t.ifu = s.ifu.endOf .selectorTimeout .path ∧ t.pans = s.pans))))
  ∧ (∀ (tag : Byte) (s : State), s.ready →
     (∀ n, s.held = true → exec (.setAuto tag (.fields n)) s = .next (s.answered 0x26 tag .mode))
     ∧ (∀ n, s.held = false → 1 < n →
         exec (.setAuto tag (.fields n)) s = .next (s.answered 0x26 tag (.refused .outOfRange)))
     ∧ (∀ b : Bool, s.held = false → exec (.setAuto tag (.fields (if b then 1 else 0))) s
         = .next { s with path := { s.path with auto := b }, link := (s.answered 0x26 tag (.ok (.auto b))).link })
     ∧ exec (.readPath tag (.fields ())) s = .next (s.answered 0x28 tag (.ok (.path
         { path := s.path
           present := if s.path.state = .live then s.path.target else none
           coastEnd := match s.path.state with
             | .opening (.neutral e) | .coasting (.neutral e) => some e
             | .coasting .loss => s.path.timer.map PathTimer.remaining
             | _ => none
           bc := s.outputs.commanded.bc, bt := s.outputs.commanded.bt, sd := s.outputs.commanded.sd
           breakerClosed := s.lines.breakerClosed, selector := s.lines.selector, earthed := s.ifu.earthed
           line := match s.sense.record with
             | .dead => .dead
             | .acquiring _ _ => .acquiring
             | .recognized i => .recognized i
             | .suspect i _ _ => .suspect i
           closing :=
             { recognized := (match s.sense.record with
                 | .recognized i => decide (s.path.target = some i)
                 | _ => false)
               panUp := s.path.target.isSome && allPans.any fun p =>
                 decide ((s.pan p).state = .up) && decide ((s.pan p).inForce.system = s.path.target)
               selector := (match s.descriptor s.path.target with
                 | some d => decide (s.lines.selector = some d.selector)
                 | none => false)
               unearthed := !s.ifu.earthed } }))))

/-- A change of the breaker feedback: CLOSING goes to LIVE on closed; on open LIVE ends in ISOLATED through
OPENING(REQUEST), OPENING goes on by its reason, and BREAKER_STUCK_CLOSED ends; in every other state BT follows and
nothing else happens. (That a completed opening goes on to CLOSING at once where the closing condition holds is log
15.) While the jobs do not run, the line alone changes. A change of the selector feedback: in SELECTING the arrival at
the target's position brings AWAIT_LINE, with its tests on entry; in AWAIT_LINE and in a coast of NEUTRAL or LOSS a
change that completes the closing condition closes the path, and any other changes nothing; in CLOSING and LIVE its
loss brings FAULTED, with every pan lowered and SELECTOR_TIMEOUT raised; in every other state nothing happens. While
the jobs do not run, the lines alone change. (That a path whose breaker reads closed goes on from CLOSING to LIVE at
once is log 14; that a CLOSING on the entry of AWAIT_LINE has the cause FEEDBACK too, and a connection lost there the
cause PAN, is log 21.) -/
def Obligations.ThePathTakesItsFeedback : Prop :=
  (∀ (closed : Bool) (s : State),
     let lines := { s.lines with breakerClosed := closed }
     (s.jobsRun = false → exec (.breakerFeedbackChange closed) s = .next { s with lines := lines })
     ∧ (s.jobsRun = true → s.steady →
       ∃ (t : State) (rs : List Report), exec (.breakerFeedbackChange closed) s = .next t
         ∧ t.still = { s.still with lines := lines } ∧ t.link = s.link.posts rs
         ∧ (s.ice.programs = [] →
           (closed = true → s.path.state = .closing →
             t.path = { s.path with state := .live, expected := none, timer := none }
             ∧ t.outputs.commanded.bc = true ∧ t.outputs.commanded.bt = false ∧ t.ifu = s.ifu)
           ∧ (closed = true → s.path.state ≠ .closing → t.path = s.path ∧ t.ifu = s.ifu ∧ t.pans = s.pans ∧ rs = []
               ∧ t.outputs.commanded.bt = decide (s.path.state ≠ .live))
           ∧ (closed = false → (∀ n, s.path.state ≠ .opening (.change n)) →
               t.ifu = s.ifu.endOf .breakerStuckClosed .path)
           ∧ (closed = false → s.path.state = .live → t.path.state = .isolated ∧ t.path.target = none
               ∧ t.outputs.commanded.bc = false ∧ t.outputs.commanded.bt = false)
           ∧ (∀ r, closed = false → s.path.state = .opening r →
               (s.outputs.mode = .safe ∨ r = .request ∨ r = .pan ∨ r = .earth →
                 t.path.state = .isolated ∧ t.path.target = none)
               ∧ (∀ e, s.outputs.mode ≠ .safe → r = .neutral e →
                   t.path.state = if s.closing.holds = true ∧ e ≤ s.marker.odometer then .closing
                     else .coasting (.neutral e))
               ∧ (s.outputs.mode ≠ .safe → r = .loss ∨ (r = .lowerZone ∧ s.path.lowerZone = false) →
                   t.path.state = if s.closing.holds = true then .closing else .coasting .loss)
               ∧ (∀ n, s.outputs.mode ≠ .safe → r = .change n → s.allDown = false →
                   t.path.state = .changing n ∧ t.outputs.commanded.sd = .stop)
               ∧ (s.outputs.mode ≠ .safe → r = .lowerZone → s.path.lowerZone = true →
                   t.path.state = .coasting .zone
                   ∧ ∀ q, (t.pan q).state ≠ .rising ∧ (t.pan q).state ≠ .up ∧ (t.pan q).state ≠ .dipping))
           ∧ (closed = false → s.path.state ≠ .live → (∀ r, s.path.state ≠ .opening r) →
               t.path = s.path ∧ t.pans = s.pans
               ∧ t.outputs.commanded.bt = (match s.path.state with
                 | .faulted _ => true
                 | _ => false)))))
  ∧ (∀ (position : Option Position) (s : State),
       let t0 := { s with lines := { s.lines with selector := position } }
       let arrived : Prop := position ≠ none ∧ position = (s.descriptor s.path.target).map Descriptor.selector
       (s.jobsRun = false → exec (.selectorFeedbackChange position) s = .next t0)
       ∧ (s.jobsRun = true → s.steady →
         ((s.path.state = .selecting ∨ s.path.state = .closing ∨ s.path.state = .live →
             (s.path.state = .selecting ↔ ¬arrived)) → ¬t0.closes →
           exec (.selectorFeedbackChange position) s = .next t0)
         ∧ (t0.closes → s.ice.programs = [] → ∃ (t : State) (rs : List Report),
             exec (.selectorFeedbackChange position) s = .next t ∧ t.still = t0.still
             ∧ t.link = s.link.posts (s.pathMoves .closing .feedback none :: rs) ∧ t0.closed t ∧ t.pans = s.pans)
         ∧ (s.path.state = .selecting → arrived → ∃ (t : State) (rs : List Report),
             exec (.selectorFeedbackChange position) s = .next t ∧ t.still = t0.still
             ∧ t.link = s.link.posts (s.pathMoves .awaitLine .feedback none :: rs)
             ∧ (s.ice.programs = [] →
                 let awaiting : PathTimer := { kind := .awaitLine, remaining := s.pathTimes.awaitLine }
                 let m := { t0 with path := { s.path with state := .awaitLine, timer := some awaiting } }
                 t.outputs.commanded.sd = .stop ∧ t.pans = s.pans
                 ∧ (m.closes → m.closed t ∧ m.pathMoves .closing .feedback none ∈ rs)
                 ∧ (¬m.closes → m.unconnected → t.path.state = .isolated ∧ t.path.target = none
                     ∧ m.pathMoves .isolated .pan (some .noPanForSystem) ∈ rs
                     ∧ t.ifu = s.ifuRaised .noPanForSystem .path)
                 ∧ (¬m.closes → ¬m.unconnected → t.path = m.path ∧ t.ifu = s.ifu)))
         ∧ (s.path.state = .closing ∨ s.path.state = .live → ¬arrived → ∃ (t : State) (rs : List Report),
             exec (.selectorFeedbackChange position) s = .next t ∧ t.still = t0.still
             ∧ t.link = s.link.posts (s.pathMoves (.faulted .selectorLeftPosition) .feedback (some .selectorTimeout) :: rs)
             ∧ t.path.state = .faulted .selectorLeftPosition ∧ t.outputs.commanded.bc = false
             ∧ t.outputs.commanded.bt = true ∧ t.outputs.commanded.sd = .stop
             ∧ (s.ice.programs = [] → t.ifu = s.ifuRaised .selectorTimeout .path
                 ∧ t.outputs.mode = s.modeAfter .selectorTimeout .path
                 ∧ ∀ q, (t.pan q).state ≠ .rising ∧ (t.pan q).state ≠ .up ∧ (t.pan q).state ≠ .dipping))))

/-- The five path timers. Each acts while it runs: the selector's and the open feedback's expiry bring FAULTED, the
close feedback's, the await-line limit's and the loss coast limit's ISOLATED, each with its fault raised. The two that
bring FAULTED, and the loss coast limit, leave no pan raised; the other two leave every pan that the path does not
want as it was. (That each acts whatever time its timer still has is log 5.) -/
def Obligations.ThePathTimersExpire : Prop :=
  ∀ (i : Instr) (k : PathTimerKind) (new : PathState) (fault : FaultKind) (s : State),
    (i, k, new, fault) ∈ [
      (Instr.selectorMoveTimeout, PathTimerKind.selector, PathState.faulted .selectorNoArrival,
        FaultKind.selectorTimeout),
      (.openFeedbackTimeout, .openFeedback, .faulted .breakerStuckClosed, .breakerStuckClosed),
      (.closeFeedbackTimeout, .close, .isolated, .breakerNoClose),
      (.awaitLineLimitExpiry, .awaitLine, .isolated, .awaitExpired),
      (.lossCoastLimitExpiry, .lossCoast, .isolated, .lineLostUnannounced)] →
    (s.jobsRun = false → exec i s = .next s)
    ∧ ((∀ n, s.path.timer ≠ some { kind := k, remaining := n }) → s.steady → exec i s = .next s)
    ∧ ∀ n, s.jobsRun = true → s.path.timer = some { kind := k, remaining := n } → s.path.state.timerKind = some k →
        ∃ (t : State) (rs : List Report), exec i s = .next t ∧ t.still = s.still
          ∧ t.link = s.link.posts (.pathState
              { state := new, previous := s.path.state, target := if new = .isolated then none else s.path.target,
                present := none, coastEnd := none, lowerZone := s.path.lowerZone, expected := s.path.expected,
                cause := .timeout, id := none, fault := some fault, changeRequired := false,
                odometer := s.marker.odometer } :: rs)
          ∧ t.path.state = new ∧ t.outputs.commanded.bc = false ∧ t.outputs.commanded.sd = .stop
          ∧ (s.ice.programs = [] → t.ifu = s.ifuRaised fault .path ∧ t.outputs.mode = s.modeAfter fault .path
              ∧ (i = .closeFeedbackTimeout ∨ i = .awaitLineLimitExpiry →
                  ∀ p, (s.pan p).want ≠ .path → t.pan p = s.pan p)
              ∧ (i ≠ .closeFeedbackTimeout → i ≠ .awaitLineLimitExpiry →
                  ∀ q, (t.pan q).state ≠ .rising ∧ (t.pan q).state ≠ .up ∧ (t.pan q).state ≠ .dipping))

/-- What CHG does with an announcement that is handed to it, here by an ANNOUNCE that is due at once: SYSTEM_AHEAD,
NEUTRAL_AHEAD, LOWER_ZONE and LOWER_ZONE_END by the path's state. An entry that a state drops changes no field. Where the
breaker reads closed an open waits for it, and where it reads open already the path goes on by the reason. (That the
kinds have the numbers 1 to 6 is log 9, and that a path lower ends a retry hold of a marked pan of the next target is
log 17.) A path in ISOLATED has no target, one in LIVE no expected system, and a pan that is measured as the path leaves
LIVE loses its quality offset, as one that is scraped loses its ice offset. Each report carries the coast end of the state
that it names. What becomes of the pans is stated where no retry is armed, and without a DIP program where such a program
could dip a pan once the path is not LIVE. -/
def Obligations.AnnouncementsMoveThePath : Prop :=
  ∀ (tag : Byte) (f : AnnounceFields) (what : Announced) (s : State),
    let raised (u : PanState) : Bool := decide (u = .rising) || decide (u = .up) || decide (u = .dipping)
    s.ready → s.jobsRun = true → s.marker.queue = [] → f.distance ≤ 20 →
    (∀ q, raised (s.pan q).state = true → (s.pan q).fitted = true) →
    (f.kind, f.parameter) = (match what with
      | .systemAhead i => (1, some (i.val + 1))
      | .neutralAhead n => (2, some n)
      | .lowerZone => (3, none)
      | .lowerZoneEnd => (4, none)
      | .icePermit => (5, none)
      | .iceForbid => (6, none)) →
    (∀ n, what = .neutralAhead n → 1 ≤ n ∧ n ≤ 2000) →
    let e : Announcement := { id := s.marker.nextId, what := what, source := .routeData
                              trigger := min 4294967295 (s.marker.odometer + f.distance) }
    let p := s.path
    let closed := s.lines.breakerClosed
    let alldown : Prop := ∀ q, (s.pan q).fitted = true → (s.pan q).state = .down ∨ (s.pan q).state = .tripped
    let moving : Prop := p.state = .selecting ∨ p.state = .awaitLine ∨ ∃ k, p.state = .coasting k
    let resting : Prop := p.state = .isolated ∨ ∃ c, p.state = .faulted c
    let powered : Prop := p.state = .closing ∨ p.state = .live
    let none4 : Vector Claim 4 := .replicate 4 .none
    let entered (x : Path) : Path := { x with target := if x.state = .isolated then none else x.target
                                              expected := if x.state = .live then none else x.expected }
    let unarmed : Prop := ∀ g ∈ s.ice.programs, g.armed = false
    let plain : Prop := ∀ g ∈ s.ice.programs, g.kind ≠ .dip ∧ g.armed = false
    let scraped (q : PanId) : Prop := ∃ g ∈ s.ice.programs, g.pan = q ∧ g.kind = .scrape ∧ g.state = .running
    let unmeasured (q : PanId) : Pan := { s.pan q with
      ice := if (s.pan q).state = .up ∧ scraped q then 0 else (s.pan q).ice
      quality := if p.state = .live ∧ (s.pan q).state = .up ∧ (s.cqm.records.get q).state ≠ .idle then 0
        else (s.pan q).quality }
    ∃ (t : State) (rs : List Report), exec (.announce tag (.fields f)) s = .next t
      ∧ t.still = { s.still with marker :=
          { s.marker with nextId := if 255 ≤ s.marker.nextId then 1 else s.marker.nextId + 1 } }
      ∧ t.link = (s.answered 0x14 tag (.ok (.announced
          { outcome := .dueAtOnce, id := e.id, trigger := e.trigger, source := .routeData, evicted := none
            merged := [] }))).link.posts (.marker (.due e what.consumer) s.marker.odometer :: rs)
      ∧ (let fate (q : PanId) (state : PanState) (want : Want) (hold : Hold) : Prop :=
           (t.pan q).state = state ∧ (t.pan q).want = want ∧ (t.pan q).hold = hold
         let lowered : Prop := unarmed → ∀ q,
           let r := s.pan q
           if raised r.state = true then fate q .falling r.want r.hold
           else if r.want = .path then fate q r.state .none .none else fate q r.state r.want r.hold
         let withdrawn : Prop := plain → ∀ q,
           let r := s.pan q
           if r.want ≠ .path then fate q r.state r.want r.hold
           else if raised r.state = true then fate q .falling r.want r.hold else fate q r.state .none .none
         let changes (i : SysId) : Prop := t.path.state = .changing i ∧ t.path.target = p.target
           ∧ t.path.claims = none4 ∧ t.path.expected = p.expected ∧ t.path.lowerZone = p.lowerZone
           ∧ t.outputs.commanded.sd = .stop
           ∧ (plain → ∀ q,
             let r := s.pan q
             if (if r.inForce.system = some i then s.store.marks.get q = true else raised r.state = true) then
               (if raised r.state = true then fate q .falling r.want r.hold
                else if r.state = .down ∧ r.hold ≠ .none then fate q .down .none .none
                else fate q r.state r.want r.hold)
             else if r.want = .path then fate q r.state .none .none else fate q r.state r.want r.hold)
         let opens (r : OpeningReason) (zone : Bool) (expected : Option SysId) : Prop := t.path.state = .opening r
           ∧ t.path.target = p.target ∧ t.path.lowerZone = zone ∧ t.path.expected = expected
           ∧ (plain → ∀ q, t.pan q = unmeasured q) ∧ t.outputs.commanded.bc = false ∧ t.outputs.commanded.bt = true ∧ t.outputs.commanded.sd = .stop
         let zoned : Prop := t.path.state = .coasting .zone ∧ t.path.target = p.target ∧ t.path.lowerZone = true
           ∧ t.path.claims = none4 ∧ t.outputs.commanded.sd = .stop ∧ lowered
         let reports (state : PathState) (target : Option SysId) (zone : Bool) (expected : Option SysId)
             (required : Bool) : Prop := rs.head? = some (.pathState
           { state := state, previous := p.state, target := target
             coastEnd := match state with
               | .opening (.neutral c) | .coasting (.neutral c) => some c
               | .coasting .loss => p.timer.map PathTimer.remaining
               | _ => none
             present := if state = .live then target else none, lowerZone := zone, expected := expected
             cause := .announcement, id := some e.id, fault := none, changeRequired := required
             odometer := s.marker.odometer })
         let drops : Prop := t.path = p ∧ t.pans = s.pans ∧ rs = []
         match what with
         | .systemAhead i =>
           (resting → t.path = entered { p with expected := some i } ∧ t.pans = s.pans
             ∧ (p.expected ≠ some i →
                 reports p.state (entered p).target p.lowerZone (some i) false))
           ∧ (¬resting → (∀ n, p.state ≠ .changing n) → p.target = some i → drops)
           ∧ (moving → p.target ≠ some i →
               (p.auto = true → ¬alldown → changes i
                 ∧ reports (.changing i) p.target p.lowerZone p.expected false)
               ∧ (p.auto = false → t.path.state = .isolated ∧ t.path.target = none ∧ t.path.expected = some i
                   ∧ t.path.lowerZone = p.lowerZone ∧ withdrawn
                   ∧ reports .isolated none p.lowerZone (some i) true))
           ∧ (powered → p.target ≠ some i →
               (p.auto = true → reports (.opening (.change i)) p.target p.lowerZone p.expected false
                 ∧ (closed = true → opens (.change i) p.lowerZone p.expected)
                 ∧ (closed = false → s.outputs.mode ≠ .safe → ¬alldown → changes i))
               ∧ (p.auto = false → reports (.opening .request) p.target p.lowerZone (some i) true
                 ∧ (closed = true → opens .request p.lowerZone (some i))
                 ∧ (closed = false → s.outputs.mode ≠ .safe → t.path.state = .isolated ∧ t.path.target = none
                     ∧ t.path.expected = some i ∧ withdrawn)))
           ∧ (∀ r, p.state = .opening r → p.target ≠ some i →
               let again : PathState := .opening (match r with
                 | .neutral _ | .loss | .pan => .request
                 | _ => r)
               (plain → ∀ q, t.pan q = { s.pan q with ice := (t.pan q).ice })
               ∧ t.path = (if p.auto = true then
                   (if r = .request ∨ r = .earth then { p with expected := some i }
                    else { p with state := .opening (.change i) })
                 else { p with expected := some i, state := again })
               ∧ (p.auto = false → reports again p.target p.lowerZone (some i) true)
               ∧ (p.auto = true → r = .request ∨ r = .earth → p.expected ≠ some i →
                   reports p.state p.target p.lowerZone (some i) false)
               ∧ (p.auto = true → r ≠ .request → r ≠ .earth → r ≠ .change i →
                   reports (.opening (.change i)) p.target p.lowerZone p.expected false))
           ∧ (∀ n, p.state = .changing n → changes i
               ∧ (n ≠ i → ¬alldown → reports (.changing i) p.target p.lowerZone p.expected false))
         | .neutralAhead n =>
           let coastEnd := e.trigger + n + 20
           let handling := (s.descriptor p.target).map Descriptor.neutral
           (p.state = .closing ∨ (p.state = .live ∧ handling = some .openBreaker) →
             reports (.opening (.neutral coastEnd)) p.target p.lowerZone p.expected false
             ∧ (closed = true → opens (.neutral coastEnd) p.lowerZone p.expected)
             ∧ (closed = false → s.outputs.mode ≠ .safe → s.marker.odometer < coastEnd →
                 plain → t.path.state = .coasting (.neutral coastEnd) ∧ t.path.target = p.target
                   ∧ ∀ q, t.pan q = unmeasured q))
           ∧ (p.state = .live → handling = some .lowerPans →
               reports (.opening .lowerZone) p.target true p.expected false
               ∧ (closed = true → opens .lowerZone true p.expected)
               ∧ (closed = false → s.outputs.mode ≠ .safe → zoned))
           ∧ (¬powered → drops)
         | .lowerZone =>
           (resting ∨ (∃ n, p.state = .changing n) →
             t.path = entered { p with lowerZone := true, claims := none4 } ∧ lowered
             ∧ (p.lowerZone = false → reports p.state (entered p).target true (entered p).expected false))
           ∧ (moving → zoned)
           ∧ (p.state = .selecting ∨ p.state = .awaitLine ∨ (p.lowerZone = false ∧ ∃ k, p.state = .coasting k) →
             reports (.coasting .zone) p.target true p.expected false)
           ∧ (∀ r, p.state = .opening r →
               let state : PathState := .opening (match r with
                 | .neutral _ | .loss | .pan => .lowerZone
                 | _ => r)
               lowered ∧ t.path = { p with lowerZone := true, claims := none4, state := state }
               ∧ (p.lowerZone = false ∨ p.state ≠ state → reports state p.target true p.expected false))
           ∧ (powered → reports (.opening .lowerZone) p.target true p.expected false
               ∧ (closed = true → opens .lowerZone true p.expected)
               ∧ (closed = false → s.outputs.mode ≠ .safe → zoned))
         | .lowerZoneEnd =>
           (p.state ≠ .coasting .zone → t.path = entered { p with lowerZone := false } ∧ t.pans = s.pans
             ∧ (p.lowerZone = true → reports p.state (entered p).target false (entered p).expected false))
           ∧ (∀ i, p.state = .coasting .zone → p.target = some i →
               let arrived := s.lines.selector ≠ none
                 ∧ s.lines.selector = (s.store.descriptors.get i).map Descriptor.selector
               reports (if arrived then .awaitLine else .selecting) (some i) false p.expected false
               ∧ (¬arrived → t.path.state = .selecting ∧ t.path.target = some i ∧ t.path.lowerZone = false
                   ∧ ∀ d, s.store.descriptors.get i = some d → t.outputs.commanded.sd = .to d.selector)
               ∧ (∀ q d, plain → ¬arrived ∨ s.sense.record = .dead → (∀ x, (s.pan x).inForce.system = some i → x = q) →
                   s.store.descriptors.get i = some d → 1 ≤ d.maxRaised → (s.pan q).inForce.system = some i →
                   (s.pan q).fitted = true → (s.pan q).state = .down → (s.pan q).hold = .none →
                   s.ice.levels.get q ≠ .severe → s.ifu.earthed = false → s.ifu.airLow = false →
                   (s.pan q).inputs.breach = false → s.outputs.mode = .run → s.ifu.backfeed = false →
                   (∀ x, raised (s.pan x).state = false) →
                   fate q .rising .path .none ∧ t.path.claims.get q = .taken
                   ∧ t.path.state = if arrived then .awaitLine else .selecting))
         | .icePermit | .iceForbid => unarmed → t.path = p ∧ t.outputs.commanded.sd = s.outputs.commanded.sd)

/-- The all-down point of CHANGING, reached as the last pan lands: every pending pan is committed with its report, and
the path goes on to the next target, which becomes its target. Where no pan is eligible it enters ISOLATED with
NO_PAN_FOR_SYSTEM raised; in a lower zone it coasts with no claim; else it takes the selector step, and every claimed pan
that may rise is raised for it. (That the report has cause COMMIT is log 21.) -/
def Obligations.TheAllDownPointCommitsAndClaims : Prop :=
  ∀ (p : PanId) (n : SysId) (s : State), s.jobsRun = true → s.ice.programs = [] → s.path.state = .changing n →
    (s.pan p).fitted = true → (s.pan p).state = .falling → (s.pan p).inputs.headUp = false →
    (∀ q, q ≠ p → (s.pan q).state = .down ∨ ((s.pan q).fitted = true ∧ (s.pan q).state = .tripped)) →
    (∀ e ∈ s.ifu.faults, ¬(e.kind = .lowerTimeout ∧ e.subject = .pan p)) →
    let profile (q : PanId) : Profile := if s.store.marks.get q then s.store.active.get q else (s.pan q).inForce
    let eligible (q : PanId) : Bool := (s.pan q).fitted && decide ((profile q).system = some n)
      && (decide (q = p) || decide ((s.pan q).state = .down)) && decide (s.ice.levels.get q ≠ .severe)
    let before (q x : PanId) : Bool := decide ((s.pan q).rank < (s.pan x).rank)
      || (decide ((s.pan q).rank = (s.pan x).rank) && decide (q.val < x.val))
    let entry := s.store.descriptors.get n
    let taken (q : PanId) : Prop := eligible q = true ∧ ∃ d, entry = some d
      ∧ (allPans.filter fun x => eligible x && before x q).length < d.maxRaised
    let some_ : Prop := ∃ q, taken q
    let arrived := s.lines.selector ≠ none ∧ s.lines.selector = entry.map Descriptor.selector
    let rises (q : PanId) : Prop := taken q ∧ (s.pan q).hold = .none ∧ (s.pan q).inputs.breach = false
      ∧ s.ifu.earthed = false ∧ s.ifu.airLow = false ∧ s.outputs.mode = .run ∧ s.ifu.backfeed = false
    ∃ (t : State) (rs : List Report), exec (.panInputChange p .headDown true) s = .next t ∧ t.link = s.link.posts rs
      ∧ (let report (state : PathState) (target : Option SysId) (fault : Option FaultKind) : Report := .pathState
           { state := state, previous := .changing n, target := target, present := none, coastEnd := none
             lowerZone := s.path.lowerZone, expected := s.path.expected, cause := .commit, id := none, fault := fault
             changeRequired := false, odometer := s.marker.odometer }
         (∀ q, (t.pan q).inForce = profile q ∧ t.store.marks.get q = false
           ∧ (s.store.marks.get q = true → t.store.status.get q = .success
               ∧ .applyResult q (s.store.active.get q) .success ∈ rs))
         ∧ (¬some_ → t.path.state = .isolated ∧ t.path.target = none ∧ report .isolated none (some .noPanForSystem) ∈ rs
             ∧ t.ifu = s.ifuRaised .noPanForSystem .path
             ∧ ∀ q, (t.pan q).state = if q = p then .down else (s.pan q).state)
         ∧ (some_ → s.path.lowerZone = true → t.path.state = .coasting .zone ∧ t.path.target = some n
             ∧ t.path.lowerZone = true ∧ report (.coasting .zone) (some n) none ∈ rs
             ∧ (s.path.claims = .replicate 4 .none → t.path.claims = .replicate 4 .none)
             ∧ ∀ q, (t.pan q).state = if q = p then .down else (s.pan q).state)
         ∧ (some_ → s.path.lowerZone = false →
             report (if arrived then .awaitLine else .selecting) (some n) none ∈ rs
             ∧ (¬arrived ∨ (∃ q, rises q) → t.path.target = some n
                 ∧ t.path.state = (if arrived then .awaitLine else .selecting)
                 ∧ (∀ q, ¬taken q → (t.pan q).state = if q = p then .down else (s.pan q).state)
                 ∧ ∀ q, rises q → (t.pan q).state = .rising ∧ (t.pan q).want = .path ∧ t.path.claims.get q = .taken)))

/-- What a window's step of the record does to the path. A system that is newly recognized closes a path that waits for
it where the other parts of the closing condition hold, and brings one that waits for another to ISOLATED, its pans
lowered and SYSTEM_MISMATCH raised. A system that is lost opens a path that is CLOSING or LIVE onto it. In every other
state, and with no such step, the path stays as it is. (That a breaker which reads closed brings CLOSING to LIVE at once is
log 14.) -/
def Obligations.RecognitionMovesThePath : Prop :=
  ∀ (samples : Vector Int 80) (s : State), s.jobsRun = true → s.ice.programs = [] →
    (∀ i d, s.store.descriptors.get i = some d → 5 ≤ d.confirm) →
    let waits : Prop := s.path.state = .awaitLine ∨ s.path.state = .coasting .loss
      ∨ ∃ e, s.path.state = .coasting (.neutral e)
    let powered : Prop := s.path.state = .closing ∨ s.path.state = .live
    let others (i : SysId) : Prop := s.ifu.earthed = false ∧ s.lines.selector ≠ none
      ∧ s.lines.selector = (s.store.descriptors.get i).map Descriptor.selector
      ∧ (∃ q, (s.pan q).state = .up ∧ (s.pan q).inForce.system = some i)
      ∧ ∀ e, s.path.state = .coasting (.neutral e) → e ≤ s.marker.odometer
    ∃ (t : State) (rs : List Report), exec (.windowCompletion samples) s = .next t ∧ t.link = s.link.posts rs
      ∧ (let old := s.sense.record
         let new := t.sense.record
         let found (i : SysId) : Prop := (∀ j, old ≠ .recognized j) ∧ new = .recognized i
         let lost (i : SysId) : Prop := old.reported = some i ∧ new.reported = none
         let unmeasured (q : PanId) : Pan := { s.pan q with
           quality := if s.path.state = .live ∧ (s.pan q).state = .up ∧ (s.cqm.records.get q).state ≠ .idle then 0
             else (s.pan q).quality }
         let same : Prop := t.path = s.path ∧ t.pans = s.pans ∧ t.ifu = s.ifu
         (∀ i, found i →
           (¬waits → same)
           ∧ (waits → s.path.target = some i →
               (¬others i → same)
               ∧ (others i → t.path.target = some i ∧ (∀ q, (s.cqm.records.get q).state = .idle → t.pan q = s.pan q)
                   ∧ (s.lines.breakerClosed = false → t.path.state = .closing ∧ t.outputs.commanded.bc = true
                       ∧ t.outputs.commanded.bt = false ∧ t.path.timer.map PathTimer.kind = some .close)
                   ∧ (s.lines.breakerClosed = true → t.path.state = .live)))
           ∧ (waits → s.path.target ≠ some i → t.path.state = .isolated ∧ t.path.target = none
               ∧ t.path.claims = .replicate 4 .none ∧ t.ifu = s.ifuRaised .systemMismatch .path
               ∧ ∀ q, (t.pan q).state ≠ .rising ∧ (t.pan q).state ≠ .up ∧ (t.pan q).state ≠ .dipping
                   ∧ ((s.pan q).want = .path → (t.pan q).state ≠ .falling → (t.pan q).want = .none)))
         ∧ (∀ i, lost i →
             (¬powered ∨ s.path.target ≠ some i → same)
             ∧ (powered → s.path.target = some i → t.outputs.commanded.bc = false
                 ∧ (s.lines.breakerClosed = true → t.path.state = .opening .loss ∧ t.path.target = some i
                     ∧ t.outputs.commanded.bt = true ∧ ∀ q, t.pan q = unmeasured q)
                 ∧ (s.lines.breakerClosed = false → s.outputs.mode ≠ .safe → t.path.state = .coasting .loss
                     ∧ t.path.target = some i ∧ ∀ q, t.pan q = unmeasured q)))
         ∧ ((∀ i, ¬found i) → (∀ i, ¬lost i) → same))

/-! ### ICE: zones, levels and programs (chapter 6) -/

/-- An evaluation's three parts. The budget is 0 in SAFE and DRIVE, the present system's in LIVE and the standby
budget else. A zone's demand is the first line of its table that applies. The allocation takes the demanded zones by
priority and index, each into what those before it have left: it is ON where it fits, SHED or WAITING by its state
where it does not, OFF where it is not demanded; nothing else of a zone changes, a FAULTED one not at all, and the
zones in ON fit the budget together. (That a zone in SHED stays SHED at SAFE entry too is log 56.) -/
def Obligations.AnEvaluationDemandsAndAllocates : Prop :=
  (∀ s : State, s.heaterBudget =
    if s.outputs.mode = .safe ∨ s.outputs.mode = .drive then 0
    else if s.path.state = .live then ((s.descriptor s.path.target).map Descriptor.budget).getD 0
    else s.ice.standby)
  ∧ (∀ (s : State) (z : Zone),
      let weather : Prop := s.ice.temperature ≤ s.ice.icing ∧ s.ice.wet = true
      s.demandOf (Work.of s.ice) z =
        if z.fitted = false then .none
        else match z.location with
          | .panHead p =>
            if (s.pan p).inForce.policy = .off then .none
            else if (s.pan p).inForce.policy = .forced then .forced
            else if z.mode = .forced then .forced
            else if z.mode = .off then .none
            else if s.ice.programs.any (fun g => decide (g.pan = p) && decide (g.kind = .heat)) = true then .program
            else if weather ∨ s.ice.levels.get p ≠ .clear then .autoIcing
            else .none
          | _ =>
            if z.mode = .forced then .forced
            else if z.mode = .off then .none
            else if weather then .autoIcing
            else .none)
  ∧ ∀ (budget : Nat) (zones : Vector Zone 12),
      let new := allocate budget zones
      let power (z : ZoneId) : Nat := if (new.get z).state = .on then (new.get z).rated else 0
      let ahead (j i : ZoneId) : Prop := (zones.get j).priority < (zones.get i).priority
        ∨ ((zones.get j).priority = (zones.get i).priority ∧ j.val < i.val)
      (allZones.map power).sum ≤ budget
      ∧ ∀ (i : ZoneId) (before : List ZoneId), (∀ j, j ∈ before ↔ ahead j i) → before.Nodup →
          let z := zones.get i
          new.get i = { z with state :=
            if z.fitted = false then .off
            else if z.state = .faulted then .faulted
            else if z.demand = .none then .off
            else if z.rated + (before.map power).sum ≤ budget then .on
            else if z.state = .on ∨ z.state = .shed then .shed
            else .waiting }

/-- ZONE_MODE gives a zone its mode, brings it out of FAULTED with the end of its fault, and is answered with its
state after the evaluation that follows. ICE_LEVEL gives a pan its level, reports a change of it and evaluates; the
level it has already changes nothing. Where no program stands, the budget, demands, states and commands of all zones after
either are those of that evaluation. -/
def Obligations.ZoneModeAndIceLevelSet : Prop :=
  ∀ (tag : Byte) (s : State), s.ready →
    (∀ f : ZoneModeFields,
      let gives (r : Result) : Prop := exec (.zoneMode tag (.fields f)) s = .next (s.answered 0x2C tag r)
      (s.held = true → gives .mode)
      ∧ (s.held = false → f.zone = 0 ∨ 12 < f.zone → gives (.refused .badZone))
      ∧ ∀ z : ZoneId, s.held = false → f.zone = z.val + 1 →
        let r := s.ice.zones.get z
        (2 < f.mode → gives (.refused .outOfRange))
        ∧ (f.mode ≤ 2 → r.fitted = false → gives (.refused .unfitted))
        ∧ ∀ m : ZoneMode, ZoneMode.all[f.mode]? = some m → r.fitted = true →
          ∃ (t : State) (rs : List Report) (st : ZoneState), exec (.zoneMode tag (.fields f)) s = .next t
            ∧ t.link = (s.answered 0x2C tag (.ok (.zone m st))).link.posts rs ∧ t.still = s.still
            ∧ (t.ice.zones.get z).mode = m
            ∧ (s.ice.programs = [] →
                let zone := { r with mode := m, state := if r.state = .faulted then ZoneState.off else r.state }
                st = (t.ice.zones.get z).state ∧ st ≠ .faulted
                ∧ State.evaluates { s with ice := { s.ice with zones := put s.ice.zones z zone } } t
                ∧ t.ifu = (if r.state = .faulted then s.ifu.endOf .heaterFeedback (.zone z) else s.ifu)
                ∧ t.ice.levels = s.ice.levels ∧ t.ice.programs = [] ∧ t.pans = s.pans ∧ t.path = s.path))
    ∧ ∀ f : IceLevelFields,
      let gives (r : Result) : Prop := exec (.iceLevel tag (.fields f)) s = .next (s.answered 0x2D tag r)
      (s.held = true → gives .mode)
      ∧ (s.held = false → f.pan = 0 ∨ 4 < f.pan → gives (.refused .badPan))
      ∧ ∀ p : PanId, s.held = false → f.pan = p.val + 1 →
        (3 < f.level → gives (.refused .outOfRange))
        ∧ ∀ l : IceLevel, IceLevel.all[f.level]? = some l →
          let old := s.ice.levels.get p
          (l = old → s.outputs.commanded.hz = s.ice.zones.map (fun z => decide (z.state = .on)) →
              gives (.ok (.level old l)))
          ∧ (l ≠ old → ∃ (t : State) (rs : List Report), exec (.iceLevel tag (.fields f)) s = .next t
              ∧ t.link = (s.answered 0x2D tag (.ok (.level old l))).link.posts
                  (.iceLevel { pan := p, level := l, previous := old, cause := .request } :: rs)
              ∧ t.still = s.still
              ∧ (s.ice.programs = [] →
                  State.evaluates { s with ice := { s.ice with levels := put s.ice.levels p l } } t
                  ∧ t.ice.levels = put s.ice.levels p l ∧ t.ice.programs = [] ∧ t.pans = s.pans
                  ∧ t.path = s.path ∧ t.ifu = s.ifu))

/-- START_PROGRAM by its twelve checks in their order. Accepted, it is answered with a program of origin LINK, which
is at the end of the list, behind the one that may stand there already: a HEAT of a time by the pan's level, RUNNING
where its head zone is ON and PAUSED else; a DIP of three dips, the first of which is sent behind the reply and the
report where the conditions hold, and WAITING for 60 s where they do not; a SCRAPE of the scrape length, RUNNING with
an ice offset of 30 N where the path is LIVE and PAUSED else. STOP_PROGRAM ends a pan's program and is answered with
it. Whatever the path is in (but for an armed retry in AWAIT_LINE), and where every HEAT that stays has a head zone
that may heat, it leaves the list and the path; a running scrape takes its offset and its mark back, at the valve too,
an armed retry is cancelled at PAN, and any other programs stay, each HEAT among them in the state that its head zone
then gives it. -/
def Obligations.ProgramsStartAndStop : Prop :=
  (∀ (tag : Byte) (f : StartProgramFields) (s : State), s.ready →
     let gives (r : Result) : Prop := exec (.startProgram tag (.fields f)) s = .next (s.answered 0x2E tag r)
     (s.outputs.mode ≠ .run → gives .mode)
     ∧ (s.outputs.mode = .run → f.pan = 0 ∨ 4 < f.pan → gives (.refused .badPan))
     ∧ ∀ p : PanId, s.outputs.mode = .run → f.pan = p.val + 1 →
       (2 < f.kind → gives (.refused .badKind))
       ∧ ∀ k : ProgramKind, ProgramKind.all[f.kind]? = some k →
         let r := s.pan p
         let head := (s.ice.headZone p).map s.ice.zones.get
         let heat := decide (k = .heat)
         let conditions : List (Bool × Result) :=
           [(r.fitted, .refused .unfitted),
            (s.ice.programs.all fun g => decide (g.pan ≠ p), .busy),
            (decide (s.ice.programs.length < 2), .full),
            (!heat || decide (r.inForce.policy ≠ .off), .refused .policyOff),
            (!heat || head.isSome, .refused .noZone),
            (!heat || head.all fun z => decide (z.state ≠ .faulted), .refused .zoneFault),
            (!heat || head.all fun z => decide (z.mode ≠ .off) || decide (r.inForce.policy ≠ .auto),
              .refused .zoneOff),
            (heat || decide (r.state = .up), .refused .notUp),
            (decide (k ≠ .scrape) || s.ice.permit, .refused .noPermit)]
         (∀ w, (conditions.find? fun c => !c.1).map Prod.snd = some w → gives w)
         ∧ ((conditions.all Prod.fst) = true →
             ∃ (t : State) (rs : List Report) (g : Program), exec (.startProgram tag (.fields f)) s = .next t
               ∧ t.link = (s.answered 0x2E tag (.ok (.program g))).link.posts rs ∧ t.still = s.still
               ∧ g.pan = p ∧ g.kind = k ∧ g.origin = .link ∧ g.armed = false
               ∧ (s.ice.programs = [] → k = .heat →
                   g.progress = (match s.ice.levels.get p with
                     | .clear | .light => 60000
                     | .heavy => 120000
                     | .severe => 180000)
                   ∧ t.ice.programs = [g] ∧ t.pans = s.pans ∧ t.path = s.path
                   ∧ (g.state = .running ∨ g.state = .paused)
                   ∧ (g.state = .running ↔ ∃ z, s.ice.headZone p = some z ∧ (t.ice.zones.get z).state = .on))
               ∧ (s.ice.programs = [] → k = .dip → s.path.state = .isolated →
                   g = { pan := p, kind := .dip, state := .running, progress := 3, origin := .link, inFlight := false,
                         wait := none, armed := false }
                   ∧ rs.head? = some (.iceProgram { program := g, previous := none, ended := none })
                   ∧ t.ice.programs = [{ g with inFlight := true }] ∧ (t.pan p).state = .dipping
                   ∧ (t.pan p).timer = some { kind := .dipPulse, remaining := s.panTimes.dipPulse }
                   ∧ t.outputs.commanded.rv.get p = none ∧ ∀ q, q ≠ p → t.pan q = s.pan q)
               ∧ (s.ice.programs = [] → k = .dip → s.path.state = .live →
                   (∀ q, q ≠ p → ¬((s.pan q).state = .up ∧ (s.pan q).inForce.system = (s.pan p).inForce.system)) →
                   g = { pan := p, kind := .dip, state := .waiting, progress := 3, origin := .link, inFlight := false,
                         wait := some 60000, armed := false }
                   ∧ t.ice.programs = [g] ∧ t.pans = s.pans)
               ∧ (s.ice.programs = [] → k = .scrape →
                   let live := decide (s.path.state = .live)
                   g = { pan := p, kind := .scrape, state := if live then .running else .paused,
                         progress := s.ice.scrapeLength, origin := .link, inFlight := false, wait := none,
                         armed := false }
                   ∧ t.ice.programs = [g] ∧ t.path = s.path
                   ∧ t.pan p = { s.pan p with ice := if live then 30 else (s.pan p).ice }
                   ∧ (t.cqm.records.get p).scrape = (live || (s.cqm.records.get p).scrape))
               ∧ (∀ h, s.ice.programs = [h] →
                   (∃ (l : List Program) (last : Program), t.ice.programs = l ++ [last] ∧ last.pan = p ∧ last.kind = k
                     ∧ ∀ x ∈ l, x.pan = h.pan ∧ x.kind = h.kind)
                   ∧ (k ≠ .dip → h.kind ≠ .heat → t.ice.programs = [h, g])
                   ∧ ∀ z, k ≠ .dip → h.kind = .heat → s.ice.headZone h.pan = some z →
                       (s.ice.zones.get z).state ≠ .faulted → (s.ice.zones.get z).mode ≠ .off →
                       (s.pan h.pan).inForce.policy ≠ .off →
                       t.ice.programs = [{ h with
                         state := if (t.ice.zones.get z).state = .on then .running else .paused }, g])))
  ∧ (∀ (tag : Byte) (n : Nat) (s : State), s.ready →
       let gives (r : Result) : Prop := exec (.stopProgram tag (.fields n)) s = .next (s.answered 0x2F tag r)
       (s.held = true → gives .mode)
       ∧ (s.held = false → n = 0 ∨ 4 < n → gives (.refused .badPan))
       ∧ ∀ p : PanId, s.held = false → n = p.val + 1 →
           ((∀ g ∈ s.ice.programs, g.pan ≠ p) → gives (.refused .noProgram))
           ∧ ∀ (l r : List Program) (g : Program), s.ice.programs = l ++ g :: r → g.pan = p → (∀ h ∈ l, h.pan ≠ p) →
               ∃ (t : State) (rs : List Report), exec (.stopProgram tag (.fields n)) s = .next t
                 ∧ t.link = (s.answered 0x2F tag (.ok (.program { g with armed := false }))).link.posts rs
                 ∧ t.still = s.still
                 ∧ ((∀ h ∈ l ++ r, h.pan ≠ p ∧ (h.kind = .heat → s.heatable h)) →
                    s.path.state ≠ .awaitLine ∨ g.armed = false →
                      t.ice.programs = t.listed (l ++ r)
                      ∧ t.ice.levels = s.ice.levels ∧ t.path.state = s.path.state ∧ t.path.target = s.path.target
                      ∧ (∀ q, q ≠ p → t.pan q = s.pan q)
                      ∧ (let scrapes : Prop := g.kind = .scrape ∧ g.state = .running
                         (scrapes → (t.cqm.records.get p).scrape = false
                           ∧ ((s.pan p).state = .up → (t.pan p).ice = 0
                             ∧ t.outputs.commanded.rv.get p = some (t.pan p).effective))
                         ∧ (¬scrapes → t.cqm = s.cqm)
                         ∧ (g.armed = true → (s.pan p).hold ≠ .none → (t.pan p).hold = .none ∧ (t.pan p).want = .none)
                         ∧ (g.armed = false → t.path = s.path ∧ t.pan p = { s.pan p with ice :=
                             if scrapes ∧ (s.pan p).state = .up then 0 else (s.pan p).ice }))))

/-- ICE takes its inputs: the temperature within its range and the precipitation, with an evaluation where icing
weather changes, whose budget, demands, states and commands the zones then have where no program stands, and a fitted
zone's feedback, which alone starts, keeps or stops the zone's check of 500 ms. While the jobs do not run, a line alone
changes. -/
def Obligations.IceTakesItsInputs : Prop :=
  ∀ s : State, s.steady →
    (∀ (i : Instr) (held : Int) (wet : Bool) (lines : Lines),
      (∃ reading : Int, i = .temperatureSample reading ∧ wet = s.ice.wet ∧ lines = { s.lines with ambient := reading }
          ∧ held = if reading < -500 then -500 else if 600 < reading then 600 else reading)
        ∨ (i = .precipitationChange wet ∧ held = s.ice.temperature ∧ lines = { s.lines with wet := wet }) →
      let new := { s.ice with temperature := held, wet := wet }
      let unmoved : Prop := held ≤ s.ice.icing ∧ wet = true ↔ s.ice.temperature ≤ s.ice.icing ∧ s.ice.wet = true
      (s.jobsRun = false → exec i s = .next { s with lines := lines })
      ∧ (s.jobsRun = true →
        (unmoved →
            s.outputs.commanded.hz = s.ice.zones.map (fun z => decide (z.state = .on)) →
          exec i s = .next { s with lines := lines, ice := new })
        ∧ ∃ (t : State) (rs : List Report), exec i s = .next t ∧ t.link = s.link.posts rs
            ∧ t.still = { s.still with lines := lines } ∧ t.ice.temperature = held ∧ t.ice.wet = wet
            ∧ (¬unmoved → s.ice.programs = [] → State.evaluates { s with ice := new } t
                ∧ t.ice = { new with zones := t.ice.zones, budget := t.ice.budget })
            ∧ (s.ice.programs = [] → t.ice.levels = s.ice.levels ∧ t.pans = s.pans ∧ t.path = s.path ∧ t.ifu = s.ifu
                ∧ t.outputs = { s.outputs with
                  commanded := { s.outputs.commanded with hz := t.outputs.commanded.hz } })))
    ∧ ∀ (z : ZoneId) (closed : Bool),
        let lines := { s.lines with contactors := put s.lines.contactors z closed }
        let r := s.ice.zones.get z
        let check : Check := if closed = s.outputs.driven.hz.get z then .agree
          else match r.check with
            | .agree => .running 500
            | c => c
        (s.jobsRun = false ∨ r.fitted = false →
          exec (.heaterFeedbackChange z closed) s = .next { s with lines := lines })
        ∧ (s.jobsRun = true → r.fitted = true → exec (.heaterFeedbackChange z closed) s
            = .next { s with
                lines := lines
                ice := { s.ice with zones := put s.ice.zones z { r with feedback := closed, check := check } } })

/-- ICE's timers act while they run. A check that expires has its zone FAULTED, commanded off, and HEATER_FEEDBACK
raised. A HEAT that is complete leaves the list with its pan's level CLEAR, whatever the path is in and whatever other
programs stand; each HEAT that stays is in the state that its head zone then gives it, where it may heat. An armed
retry then tests the raise conditions with the want that the hold has kept: where they hold, the pan rises (in
CHANGING it is lowered again at once), and the claim behind a PATH want is TAKEN; where they do not, hold and want
end, and that claim is REFUSED. The hold ends either way, and the path tests what is left of its connection, as at O29
(CLOSING to LIVE at once: log 14). A HEAT without a retry moves no pan and no path. A DIP that has waited its time
leaves the list ABORTED, and the levels stay, as the pans and the path do where each HEAT of the list may heat. (That
each acts while its timer or its program runs, whatever time remains, is log 5. That a report of the path which a
retry brings about has the cause PAN, also for a connection that is lost, is log 21.) -/
def Obligations.IceTimersExpire : Prop :=
  (∀ (z : ZoneId) (s : State),
    ((s.jobsRun = false ∨ ∀ n, (s.ice.zones.get z).check ≠ .running n) → s.steady →
      exec (.feedbackCheckExpiry z) s = .next s)
    ∧ ∀ n, s.jobsRun = true → (s.ice.zones.get z).fitted = true → (s.ice.zones.get z).check = .running n →
        ∃ (t : State) (rs : List Report), exec (.feedbackCheckExpiry z) s = .next t ∧ t.link = s.link.posts rs
          ∧ t.still = s.still ∧ (t.ice.zones.get z).state = .faulted
          ∧ t.outputs.commanded.hz.get z = false
          ∧ (s.ice.programs = [] → t.ifu = s.ifuRaised .heaterFeedback (.zone z) ∧ t.pans = s.pans
              ∧ t.path = s.path))
  ∧ (∀ (p : PanId) (s : State),
    ((s.jobsRun = false ∨ ∀ g ∈ s.ice.programs, g.pan = p → ¬(g.kind = .heat ∧ g.state = .running)) → s.steady →
      exec (.heatComplete p) s = .next s)
    ∧ ∀ (l r : List Program) (g : Program), s.jobsRun = true → s.ice.programs = l ++ g :: r →
        (∀ h ∈ l ++ r, h.pan ≠ p) → g.pan = p → g.kind = .heat → g.state = .running →
        let old := s.pan p
        let claim := s.path.claims.get p
        let live : Prop := old.want = .path ∧ claim.isLive = true
        let cleared := { s with ice := { s.ice with levels := put s.ice.levels p .clear } }
        let refusal : Option ClaimReason := if old.state = .down then cleared.raiseRefusal p else some .busy
        let retried : Prop := g.armed = true ∧ old.hold = .armed ∧ (old.state = .down ∨ old.state = .falling)
        let accepted := s.withPan p .rising old.want .none (if live then .taken else claim)
        let refused (w : ClaimReason) :=
          s.withPan p old.state .none .none (if live then .refused w else claim)
        let stay : Prop := ∀ h ∈ l ++ r, h.kind = .heat → s.heatable h
        ∃ (t : State) (rs : List Report), exec (.heatComplete p) s = .next t ∧ t.link = s.link.posts rs
          ∧ t.still = s.still ∧ t.ice.levels = put s.ice.levels p .clear
          ∧ .iceProgram { program := { g with armed := false }, previous := some .running, ended := some .completed } ∈ rs
          ∧ (∀ h ∈ t.ice.programs, h.pan ≠ p)
          ∧ (stay → g.armed = false ∨ (∀ h ∈ l ++ r, h.kind = .heat) → t.ice.programs = t.listed (l ++ r))
          ∧ (¬retried → t.pan p = s.pan p ∧ (stay → t.pans = s.pans ∧ t.path = s.path))
          ∧ (retried → refusal = none →
              (t.pan p).state = (if ∃ j, s.path.state = .changing j then .falling else .rising)
              ∧ (t.pan p).hold = .none ∧ (t.pan p).want = old.want ∧ (l = [] → r = [] → accepted.pathTests t rs))
          ∧ (∀ w, retried → refusal = some w →
              (t.pan p).state = old.state ∧ (t.pan p).hold = .none ∧ (t.pan p).want = .none
              ∧ (l = [] → r = [] → old.want = .path → ¬(refused w).closes → (refused w).pathTests t rs))
          ∧ (l = [] → r = [] → s.path.state = .isolated → ∀ q, q ≠ p → t.pan q = s.pan q))
  ∧ ∀ (p : PanId) (s : State),
    ((s.jobsRun = false ∨ ∀ g ∈ s.ice.programs, g.pan = p → ¬(g.kind = .dip ∧ g.state = .waiting)) → s.steady →
      exec (.dipWaitExpiry p) s = .next s)
    ∧ ∀ (l r : List Program) (g : Program), s.jobsRun = true → s.ice.programs = l ++ g :: r →
        (∀ h ∈ l ++ r, h.pan ≠ p) → g.pan = p → g.kind = .dip → g.state = .waiting →
        ∃ (t : State) (rs : List Report), exec (.dipWaitExpiry p) s = .next t ∧ t.link = s.link.posts rs
          ∧ t.still = s.still ∧ t.ice.levels = s.ice.levels
          ∧ .iceProgram { program := { g with armed := false }, previous := some .waiting
                          ended := some (.aborted .conditions) } ∈ rs
          ∧ (∀ h ∈ t.ice.programs, h.pan ≠ p)
          ∧ (g.armed = false → (∀ h ∈ l ++ r, h.kind = .heat → s.heatable h) →
              t.ice.programs = t.listed (l ++ r) ∧ t.pans = s.pans ∧ t.path = s.path)

/-- A SCRAPE that runs under a LIVE path counts the whole metres that a wheel pulse brings; one whose metres run out is
COMPLETED, with its offset and its mark taken back. One that is paused, as it is under a path that is not LIVE, counts
none; where the pulse moves a NEUTRAL coast too, this is said of each that does not come to LIVE in the same step. An
ICE_PERMIT that is handed to ICE, here by an ANNOUNCE that is due at once, sets the permit and nothing else of the roof,
and an ICE_FORBID clears it and completes every SCRAPE of the list. (The numbers 5 and 6 of the two kinds are log 9.) -/
def Obligations.ScrapesCountMetresAndThePermitMoves : Prop :=
  (∀ (p : PanId) (g : Program) (s : State), s.jobsRun = true → s.marker.queue = [] → s.path.state = .live →
     s.ice.programs = [g] → g.pan = p → g.kind = .scrape → g.armed = false →
     let sum := s.marker.remainder + s.marker.perPulse
     let metres := min 4294967295 (s.marker.odometer + sum / 100) - s.marker.odometer
     ∃ (t : State) (rs : List Report), exec .wheelPulse s = .next t ∧ t.link = s.link.posts rs
       ∧ t.path = s.path ∧ t.ice.permit = s.ice.permit ∧ t.ice.levels = s.ice.levels
       ∧ (g.state ≠ .running ∨ metres = 0 → t.ice.programs = [g] ∧ t.pans = s.pans ∧ t.cqm = s.cqm ∧ rs = [])
       ∧ (g.state = .running → 0 < metres → metres < g.progress →
           t.ice.programs = [{ g with progress := g.progress - metres }] ∧ t.pans = s.pans ∧ t.cqm = s.cqm ∧ rs = [])
       ∧ (g.state = .running → 0 < metres → g.progress ≤ metres →
           t.ice.programs = []
           ∧ rs.head? = some (.iceProgram { program := { g with progress := 0 }, previous := some .running
                                            ended := some .completed })
           ∧ t.pans = put s.pans p { s.pan p with ice := if (s.pan p).state = .up then 0 else (s.pan p).ice }
           ∧ (t.cqm.records.get p).scrape = false))
  ∧ (∀ (g : Program) (s : State), s.jobsRun = true → s.marker.queue = [] → s.path.state ≠ .live →
     s.ice.programs = [g] → g.kind = .scrape → g.state = .paused →
     let odometer := min 4294967295 (s.marker.odometer + (s.marker.remainder + s.marker.perPulse) / 100)
     ∃ (t : State) (rs : List Report), exec .wheelPulse s = .next t ∧ t.link = s.link.posts rs
       ∧ ((∀ e, s.path.state = .coasting (.neutral e) → odometer < e) →
           t.ice.programs = [g] ∧ t.path = s.path ∧ t.pans = s.pans ∧ t.cqm = s.cqm ∧ rs = [])
       ∧ (s.lines.breakerClosed = false ∨ s.closing.holds = false →
           t.ice.programs = [g]
           ∧ ((∀ q, (s.cqm.records.get q).state = .idle) → t.pans = s.pans ∧ t.cqm = s.cqm)))
  ∧ ∀ (tag : Byte) (f : AnnounceFields) (s : State), s.ready → s.jobsRun = true → s.marker.queue = [] →
      f.distance ≤ 20 → f.kind = 5 ∨ f.kind = 6 → f.parameter = none →
      (∀ g ∈ s.ice.programs, g.kind ≠ .heat ∧ g.armed = false) →
      let e : Announcement := { id := s.marker.nextId, what := if f.kind = 5 then .icePermit else .iceForbid
                                source := .routeData
                                trigger := min 4294967295 (s.marker.odometer + f.distance) }
      ∃ (t : State) (rs : List Report), exec (.announce tag (.fields f)) s = .next t
        ∧ t.link = (s.answered 0x14 tag (.ok (.announced
            { outcome := .dueAtOnce, id := e.id, trigger := e.trigger, source := .routeData, evicted := none
              merged := [] }))).link.posts (.marker (.due e .ice) s.marker.odometer :: rs)
        ∧ t.path = s.path ∧ t.ice.levels = s.ice.levels
        ∧ (f.kind = 5 → rs = [] ∧ t = { s with
            link := t.link, marker := t.marker, order := t.order, ice := { s.ice with permit := true } })
        ∧ (f.kind = 6 → t.ice.permit = false
            ∧ t.ice.programs = s.ice.programs.filter (fun g => decide (g.kind ≠ .scrape))
            ∧ (∀ g ∈ s.ice.programs, g.kind = .scrape →
                .iceProgram { program := g, previous := some g.state, ended := some .completed } ∈ rs
                ∧ (g.state = .running → (t.cqm.records.get g.pan).scrape = false
                    ∧ ((s.pan g.pan).state = .up → (t.pan g.pan).ice = 0)))
            ∧ ∀ q, t.pan q = { s.pan q with ice := (t.pan q).ice })

/-! ### CQM: contact quality (chapter 7) -/

/-- GATE, RESET_COUNTS, QUALITY_SETUP and INJECT_ARC: MODE while CQM is held, then their checks in their order. GATE
START clears the counters and runs the clock from 0, and GATE STOP freezes the gate with its closing report;
RESET_COUNTS clears the counters and no more; QUALITY_SETUP sets its four values, a new period beginning where it
changes under a running gate; INJECT_ARC sets the inject of a measuring pan that has none pending. (The closing
report's gate RUNNING is log 42; the numbers 0 and 1 of GATE and of the report setting, and the bytes 1 and 5 of a
period, are log 9.) -/
def Obligations.TheRequestsOfContactQuality : Prop :=
  ∀ (tag : Byte) (n : Nat) (f : QualitySetupFields) (s : State), s.ready →
    let gives (i : Instr) (code : Byte) (r : Result) : Prop := exec i s = .next (s.answered code tag r)
    let sets (i : Instr) (code : Byte) (r : Result) (m : Cqm) : Prop :=
      exec i s = .next { s with link := (s.answered code tag r).link, cqm := m }
    let gate := Instr.gate tag (.fields n)
    let setup := Instr.qualitySetup tag (.fields f)
    let inject := Instr.injectArc tag (.fields n)
    let cleared (r : QualityRecord) : QualityRecord :=
      { r with period := 0, total := 0, contact := 0, windows := 0, synthetic := 0 }
    (s.held = true → gives gate 0x34 .mode ∧ gives (.resetCounts tag (.fields ())) 0x35 .mode
      ∧ gives setup 0x36 .mode ∧ gives inject 0x37 .mode)
    ∧ (s.held = false →
      (1 < n → gives gate 0x34 (.refused .outOfRange))
      ∧ (n = 0 → sets gate 0x34 (.ok (.gate .running))
          { s.cqm with gate := .running, clock := 0, records := s.cqm.records.map cleared })
      ∧ (n = 1 → s.cqm.gate = .frozen → gives gate 0x34 (.ok (.gate .frozen)))
      ∧ (n = 1 → s.cqm.gate = .running → exec gate s = .next { s with
          cqm := { s.cqm with gate := .frozen }
          link := (s.answered 0x34 tag (.ok (.gate .frozen))).link.posts (if s.cqm.reports then [.quality
            { gate := .running, period := s.cqm.period, kind := .closing
              records := s.cqm.records.map fun r => { state := r.state, period := r.period, total := r.total,
                                                      contact := r.contact, synthetic := r.synthetic } }] else []) })
      ∧ sets (.resetCounts tag (.fields ())) 0x35 (.ok .nothing) { s.cqm with records := s.cqm.records.map cleared }
      ∧ ((f.period ≠ 1 ∧ f.period ≠ 5) ∨ 1 < f.reports ∨ f.disturb < 2 ∨ 250 < f.disturb ∨ 249 < f.clean →
          gives setup 0x36 (.refused .outOfRange))
      ∧ (∀ (t : Period) (b : Bool), (t = .one ∧ f.period = 1 ∨ t = .five ∧ f.period = 5) →
          (b = true ∧ f.reports = 0 ∨ b = false ∧ f.reports = 1) → 2 ≤ f.disturb → f.disturb ≤ 250 → f.clean ≤ 249 →
          (f.disturb ≤ f.clean → gives setup 0x36 (.refused .fieldMismatch))
          ∧ (f.clean < f.disturb →
              let new := { s.cqm with period := t, reports := b, disturb := f.disturb, clean := f.clean }
              sets setup 0x36 (.ok (.qualitySetup t b f.disturb f.clean))
                (if s.cqm.period ≠ t ∧ s.cqm.gate = .running then
                  { new with clock := 0, records := s.cqm.records.map fun r => { r with period := 0 } }
                 else new)))
      ∧ (n = 0 ∨ 4 < n → gives inject 0x37 (.refused .badPan))
      ∧ ∀ p : PanId, n = p.val + 1 →
          let r := s.cqm.records.get p
          (r.state = .idle → gives inject 0x37 (.refused .notMeasuring))
          ∧ (r.state ≠ .idle → r.inject = true → gives inject 0x37 .busy)
          ∧ (r.state ≠ .idle → r.inject = false → sets inject 0x37 (.ok .nothing)
              { s.cqm with records := put s.cqm.records p { r with inject := true } }))

/-- A detector sample counts one arc for every measuring pan where a pulse has arrived, and one for a pending inject;
the arcs of the window take them always, the counters under a running gate. Where CQM takes no sample the line keeps
its pulse (log 23). A report period's end under a running gate posts the QUALITY report where reports are enabled, clears the
arcs of the period and runs the clock from 0. The end of a quality window. Up to the third in SETTLING it is only
counted. From then on the record steps by the arcs of the window; a disturbed one adds 10 N to the pan's quality
offset, below 30 N and without a scrape, and raises the ice level by one step on a cold roof; thirty steady ones take
10 N off. (That the end of a period or a window acts whenever its clock runs is log 5.) -/
def Obligations.SamplesPeriodsAndWindowsCount : Prop :=
  (∀ s : State, s.steady →
     (∀ pulse : Bool,
       let arc := s.lines.arcPulse || pulse
       (s.jobsRun = false → exec (.arcSample pulse) s = .next { s with lines := { s.lines with arcPulse := arc } })
       ∧ (s.jobsRun = true → exec (.arcSample pulse) s = .next { s with
           lines := { s.lines with arcPulse := false }
           cqm := { s.cqm with records := Vector.ofFn fun p : PanId =>
             let r := s.cqm.records.get p
             let synthetic := if r.inject then 1 else 0
             let arcs := (if arc then 1 else 0) + synthetic
             if r.state = .idle then r else { r with
               arcs := min (r.arcs + arcs) 65535
               inject := false
               period := if s.cqm.gate = .running then min (r.period + arcs) 65535 else r.period
               total := if s.cqm.gate = .running then min (r.total + arcs) 4294967295 else r.total
               contact := if s.cqm.gate = .running ∧ (s.pan p).inputs.contact = true then
                   min (r.contact + 1) 4294967295
                 else if s.cqm.gate = .running then min r.contact 4294967295 else r.contact
               synthetic := if s.cqm.gate = .running then min (r.synthetic + synthetic) 65535
                 else r.synthetic } } }))
     ∧ (s.jobsRun = false ∨ s.cqm.gate = .frozen → exec .reportPeriodEnd s = .next s)
     ∧ (s.jobsRun = true → s.cqm.gate = .running → exec .reportPeriodEnd s = .next { s with
         cqm := { s.cqm with clock := 0, records := s.cqm.records.map fun r => { r with period := 0 } }
         link := s.link.posts (if s.cqm.reports then [.quality
           { gate := .running, period := s.cqm.period, kind := .periodic
             records := s.cqm.records.map fun r => { state := r.state, period := r.period, total := r.total,
                                                     contact := r.contact, synthetic := r.synthetic } }] else []) }))
  ∧ (∀ (p : PanId) (s : State),
       let r := s.cqm.records.get p
       (s.jobsRun = false ∨ r.state = .idle → s.steady → exec (.qualityWindowEnd p) s = .next s)
       ∧ (s.jobsRun = true → r.state = .settling → r.settle < 3 → s.steady → exec (.qualityWindowEnd p) s = .next { s with
           cqm := { s.cqm with records := put s.cqm.records p { r with settle := r.settle + 1, arcs := 0,
                                                                       elapsed := some 0 } } })
       ∧ (s.jobsRun = true → r.state ≠ .idle → (r.state = .settling → 3 ≤ r.settle) →
           ∃ (t : State) (rs : List Report), exec (.qualityWindowEnd p) s = .next t ∧ t.link = s.link.posts rs
             ∧ t.still = s.still
             ∧ (s.ice.programs = [] →
                 let disturbed := s.cqm.disturb ≤ r.arcs
                 let steady : Nat := if disturbed then 0 else match r.state with
                   | .disturbed => if r.arcs ≤ s.cqm.clean ∧ 4 ≤ r.clean then 1 else r.steady
                   | .steady => r.steady + 1
                   | .settling | .idle => 1
                 let old := (s.pan p).quality
                 t.cqm = { s.cqm with records := put s.cqm.records p { r with
                   state := if disturbed then .disturbed
                     else if r.state = .disturbed ∧ ¬(r.arcs ≤ s.cqm.clean ∧ 4 ≤ r.clean) then .disturbed else .steady
                   clean := if disturbed then 0
                     else if r.state = .disturbed then (if r.arcs ≤ s.cqm.clean ∧ r.clean < 4 then r.clean + 1 else 0)
                     else r.clean
                   steady := if 30 ≤ steady then 0 else steady
                   arcs := 0
                   elapsed := some 0
                   windows := if s.cqm.gate = .running then min (r.windows + 1) 4294967295 else r.windows } }
                 ∧ t.pans = put s.pans p { s.pan p with quality :=
                     if (s.pan p).state ≠ .up then old
                     else if disturbed then (if old < 30 ∧ r.scrape = false then old + 10 else old)
                     else if 30 ≤ steady ∧ 0 < old then old - 10 else old }
                 ∧ t.outputs.commanded.rv = (if (t.pan p).quality = old then s.outputs.commanded.rv
                     else put s.outputs.commanded.rv p (some (t.pan p).effective))
                 ∧ t.ice.levels = put s.ice.levels p (if disturbed ∧ s.ice.temperature ≤ s.ice.icing then
                     (match s.ice.levels.get p with
                       | .clear => .light
                       | .light | .heavy => .heavy
                       | .severe => .severe)
                   else s.ice.levels.get p)
                 ∧ t.path = s.path ∧ t.ifu = s.ifu)))

/-! ### IFU: interlocks and faults (chapter 8) -/

/-- What a raise does to the Fault Table, and what its FAULT report carries. An entry of its kind and subject goes to
the newest end with one occurrence more and the odometer, active again; without one a new entry goes there, where 16
stand in the place of the oldest that is CLEARED_UNACK, and is not stored where there is none such. A momentary
condition ends at once. The report carries what became of the entry, its counts where it is held, the entry replaced,
the overflow count and whether the raise escalates, which orders SAFE behind it; it tells ICE nothing. A condition's
end clears the entry or removes it, with a report, and is nothing where no active entry has it. There are seventeen
kinds, and the severity, the subject and the type, momentary or condition, of each are those of their table. -/
def Obligations.ARaiseTakesItsPlaceInTheTable : Prop :=
  (∀ (i : Ifu) (k : FaultKind) (j : Subject) (odometer : Nat),
    let ended (e : FaultEntry) : List FaultEntry :=
      if k.momentary then (match e.state with
        | .activeUnack | .clearedUnack => [{ e with state := .clearedUnack }]
        | .activeAck => [])
      else [e]
    let new : FaultEntry :=
      { kind := k, subject := j, state := .activeUnack, occurrences := 1, first := odometer, last := odometer }
    let names (e : FaultEntry) : Prop := e.kind = k ∧ e.subject = j
    let step := i.raise k j odometer
    let table := step.ifu
    let tells (l : List FaultEntry) (replaced : Option (FaultKind × Subject)) : Prop := step.replaced = replaced
      ∧ match l with
        | e :: _ => step.outcome = .held e.state
            ∧ step.counts = some { occurrences := e.occurrences, first := e.first, last := e.last }
        | [] => step.outcome = .removed ∧ step.counts = none
    table = { i with faults := table.faults, overflow := table.overflow }
    ∧ (∀ (a b : List FaultEntry) (e : FaultEntry), i.faults = a ++ e :: b → names e → (∀ x ∈ a ++ b, ¬names x) →
        let again := { e with
          occurrences := min 255 (e.occurrences + 1)
          last := odometer
          state := if e.state = .activeAck then .activeAck else .activeUnack }
        table.overflow = i.overflow ∧ table.faults = a ++ b ++ ended again ∧ tells (ended again) none)
    ∧ ((∀ x ∈ i.faults, ¬names x) → i.faults.length < 16 →
        table = { i with faults := i.faults ++ ended new } ∧ tells (ended new) none)
    ∧ (∀ (a b : List FaultEntry) (e : FaultEntry), (∀ x ∈ i.faults, ¬names x) → 16 ≤ i.faults.length →
        i.faults = a ++ e :: b → e.state = .clearedUnack → (∀ x ∈ a, x.state ≠ .clearedUnack) →
        table = { i with faults := a ++ b ++ ended new } ∧ tells (ended new) (some (e.kind, e.subject)))
    ∧ ((∀ x ∈ i.faults, ¬names x) → 16 ≤ i.faults.length → (∀ x ∈ i.faults, x.state ≠ .clearedUnack) →
        table = { i with overflow := min (i.overflow + 1) 65535 }
        ∧ step.outcome = .notStored ∧ step.counts = none ∧ step.replaced = none))
  ∧ (let pan (j : Subject) : Prop := ∃ p, j = .pan p
     let zone (j : Subject) : Prop := ∃ z, j = .zone z
     let rows : List (FaultKind × Severity × (Subject → Prop) × Bool) :=
       [(.raiseTimeout, .degrade, pan, true), (.lowerTimeout, .trip, pan, false), (.stripBreach, .trip, pan, false),
        (.airLoss, .trip, pan, false), (.selectorTimeout, .trip, (· = .path), false),
        (.breakerNoClose, .degrade, (· = .path), true), (.breakerStuckClosed, .trip, (· = .path), false),
        (.lineLostUnannounced, .degrade, (· = .path), true), (.systemMismatch, .degrade, (· = .path), true),
        (.noPanForSystem, .degrade, (· = .path), true), (.awaitExpired, .degrade, (· = .path), true),
        (.roofBackfeed, .trip, (· = .none), false), (.heaterFeedback, .degrade, zone, false),
        (.announceOverflow, .note, (· = .none), true), (.configImageInvalid, .note, (· = .none), true),
        (.linkBreak, .trip, (· = .none), true), (.driveExitExpired, .note, (· = .none), true)]
     FaultKind.all = rows.map Prod.fst ∧ (∀ k : FaultKind, k ∈ FaultKind.all)
     ∧ ∀ (k : FaultKind) (severity : Severity) (subject : Subject → Prop) (momentary : Bool),
         (k, severity, subject, momentary) ∈ rows →
         k.severity = severity ∧ k.momentary = momentary ∧ ∀ j, k.fits j = true ↔ subject j)
  ∧ ∀ (y : Sys) (k : FaultKind) (j : Subject),
      let names (e : FaultEntry) : Prop := e.kind = k ∧ e.subject = j
      let report (event : FaultEvent) (step : FaultStep) (escalated : Bool) : Report := .fault
        { event := event, kind := k, subject := j, severity := k.severity, outcome := step.outcome
          counts := step.counts, replaced := step.replaced, overflow := step.ifu.overflow, escalated := escalated }
      let active (e : FaultEntry) : Prop := e.state = .activeUnack ∨ e.state = .activeAck
      let escalates := decide (k.severity = .trip
        ∧ ∃ e ∈ y.st.ifu.faults, ¬names e ∧ e.kind.severity = .trip ∧ active e)
      let step := y.st.ifu.raise k j y.st.marker.odometer
      y.takeRaised k j =
        { y with
          st := { y.st with ifu := step.ifu, link := y.st.link.post (report .raised step escalates) }
          todo := y.todo ++ if escalates then [.safeOrder .escalation] else [] }
      ∧ ((∀ e ∈ y.st.ifu.faults, names e → ¬active e) → y.takeEnded k j = y)
      ∧ ∀ (a b : List FaultEntry) (e : FaultEntry), y.st.ifu.faults = a ++ e :: b → names e →
          (∀ x ∈ a ++ b, ¬names x) →
          (e.state = .activeUnack →
            let ended : FaultStep :=
              { ifu := { y.st.ifu with faults := a ++ { e with state := .clearedUnack } :: b }
                outcome := .held .clearedUnack
                counts := some { occurrences := e.occurrences, first := e.first, last := e.last }, replaced := none }
            y.takeEnded k j = { y with st := { y.st with
              ifu := ended.ifu, link := y.st.link.post (report .ended ended false) } })
          ∧ (e.state = .activeAck →
            let ended : FaultStep :=
              { ifu := { y.st.ifu with faults := a ++ b }, outcome := .removed, counts := none, replaced := none }
            y.takeEnded k j = { y with st := { y.st with
              ifu := ended.ifu, link := y.st.link.post (report .ended ended false) } })

/-- ACK_FAULT by its checks. One entry is acknowledged: ACTIVE_UNACK becomes ACTIVE_ACK, which stays, and
CLEARED_UNACK leaves the table. ALL acknowledges every entry so, and the reply counts both. Nothing else changes. -/
def Obligations.AckFaultAcknowledges : Prop :=
  ∀ (tag : Byte) (s : State), s.ready →
    let gives (f : AckFields) (r : Result) : Prop := exec (.ackFault tag (.fields f)) s = .next (s.answered 0x3D tag r)
    let sets (f : AckFields) (r : Result) (l : List FaultEntry) : Prop := exec (.ackFault tag (.fields f)) s
      = .next { s with link := (s.answered 0x3D tag r).link, ifu := { s.ifu with faults := l } }
    let active (e : FaultEntry) : FaultEntry :=
      { e with state := if e.state = .activeUnack then .activeAck else e.state }
    let count (t : FaultState) : Nat := (s.ifu.faults.filter fun e => decide (e.state = t)).length
    sets .all (.ok (.acknowledgedAll (count .activeUnack) (count .clearedUnack)))
      ((s.ifu.faults.filter fun e => decide (e.state ≠ .clearedUnack)).map active)
    ∧ (∀ n m : Nat, 17 ≤ n → gives (.one n m) (.refused .outOfRange))
    ∧ ∀ (n m : Nat) (k : FaultKind), FaultKind.all[n]? = some k →
        (subjectOf m = none → gives (.one n m) (.refused .outOfRange))
        ∧ ∀ j : Subject, subjectOf m = some j →
            (k.fits j = false → gives (.one n m) (.refused .outOfRange))
            ∧ (k.fits j = true → (∀ x ∈ s.ifu.faults, ¬(x.kind = k ∧ x.subject = j)) →
                gives (.one n m) (.refused .noEntry))
            ∧ ∀ (a b : List FaultEntry) (e : FaultEntry), k.fits j = true → s.ifu.faults = a ++ e :: b →
                (e.kind = k ∧ e.subject = j) → (∀ x ∈ a ++ b, ¬(x.kind = k ∧ x.subject = j)) →
                (e.state = .clearedUnack → sets (.one n m) (.ok (.acknowledged .removed)) (a ++ b))
                ∧ (e.state ≠ .clearedUnack →
                    sets (.one n m) (.ok (.acknowledged (.held .activeAck))) (a ++ active e :: b))

/-- A change of an interlock is taken in every load state. An earthing change is handed to CHG once no load runs: on
the switch's closing a path that neither opens nor rests goes to ISOLATED, a CLOSING or LIVE one through
OPENING(EARTH). In SELECTING, AWAIT_LINE, COASTING of NEUTRAL or LOSS and OPENING, and in CLOSING and LIVE with the
breaker open, every raised pan is lowered, and a pan that the path wants without its being raised is released; in
CLOSING and LIVE with the breaker closed no pan moves before the open is complete; in ISOLATED, FAULTED, CHANGING and
COASTING(ZONE) none moves, in the last two because they have been lowered already (log 32). On the switch's opening
the closing condition is tested: a path in AWAIT_LINE, or in a coast of LOSS or of NEUTRAL past its end, closes where
it then holds (at once to LIVE where the breaker reads closed: log 14), and nothing else of the roof changes. -/
def Obligations.TheInterlocksAreTaken : Prop :=
  ∀ (level : Bool) (s : State),
    (s.steady → exec (.interlockChange .airSupply level) s = .next { s with
      lines := { s.lines with airLow := level }, ifu := { s.ifu with airLow := level } })
    ∧ (let taken := { s with lines := { s.lines with earthClosed := level }, ifu := { s.ifu with earthed := level } }
       (s.steady → s.loaded = false ∨ s.held = true ∨ s.ifu.earthed = level ∨ (level = false ∧ ¬taken.closes) →
          exec (.interlockChange .earthing level) s = .next taken)
       ∧ ∃ (t : State) (rs : List Report), exec (.interlockChange .earthing level) s = .next t
          ∧ t.link = s.link.posts rs ∧ t.still = taken.still
          ∧ (s.jobsRun = true → s.ifu.earthed = true → level = false → s.ice.programs = [] → taken.closes →
              taken.closed t ∧ rs.head? = some (s.pathMoves .closing .earth none) ∧ t.pans = s.pans)
          ∧ (s.jobsRun = true → s.ifu.earthed = false → level = true →
              (s.path.state = .isolated → t.path.state = .isolated ∧ t.path.target = s.path.target)
              ∧ (s.path.state = .selecting ∨ s.path.state = .awaitLine ∨ (∃ k, s.path.state = .coasting k)
                  ∨ (∃ i, s.path.state = .changing i)
                  ∨ ((s.path.state = .closing ∨ s.path.state = .live) ∧ s.lines.breakerClosed = false) →
                t.path.state = .isolated ∧ t.path.target = none)
              ∧ ((s.path.state = .closing ∨ s.path.state = .live) ∧ s.lines.breakerClosed = true
                  ∨ (∃ r, s.path.state = .opening r) → s.ice.programs = [] → t.path.state = .opening .earth)
              ∧ (∀ c, s.path.state = .faulted c → t.path.state = .faulted c)
              ∧ (s.ice.programs = [] → ∀ q,
                  let old := s.pan q
                  let new := t.pan q
                  let idle : Prop := (s.cqm.records.get q).state = .idle
                  let raised := old.state = .rising ∨ old.state = .up ∨ old.state = .dipping
                  let powered := s.path.state = .closing ∨ s.path.state = .live
                  (s.path.state = .selecting ∨ s.path.state = .awaitLine ∨ s.path.state = .coasting .loss
                      ∨ (∃ e, s.path.state = .coasting (.neutral e)) ∨ (∃ r, s.path.state = .opening r)
                      ∨ powered ∧ s.lines.breakerClosed = false →
                    (raised → new.state = .falling ∧ new.want = old.want ∧ new.hold = old.hold)
                    ∧ (¬raised → new.state = old.state
                        ∧ (old.want = .path → new.want = .none ∧ new.hold = .none)
                        ∧ (old.want ≠ .path → idle → new = old)))
                  ∧ (powered → s.lines.breakerClosed = true → s.path.state = .live ∨ idle →
                      new = { old with quality :=
                        if s.path.state = .live ∧ old.state = .up ∧ ¬idle then 0 else old.quality })
                  ∧ (s.path.state = .isolated ∨ s.path.state = .coasting .zone ∨ (∃ i, s.path.state = .changing i)
                      ∨ (∃ c, s.path.state = .faulted c) → idle → new = old))))

/-- The backfeed watch. It is sampled in RUN and SAFE outside a load. QUIET goes to TIMING where the line is not dead
and no fitted pan is raised, TIMING counts down by 100 ms and goes back to QUIET where that ends, and at its end
ROOF_BACKFEED is raised and the watch PRESENT; PRESENT goes to QUIET on a dead line, and the condition ends. (That the
samples count so, 2000 ms at the start, 100 ms down while time remains and PRESENT at the first sample that finds 0, is
log 22.) -/
def Obligations.TheBackfeedWatchSteps : Prop :=
  ∀ s : State,
    let condition := s.sense.record ≠ .dead
      ∧ ∀ p, (s.pan p).fitted = true → (s.pan p).state = .down ∨ (s.pan p).state = .tripped
    let sampled := s.loaded = true ∧ (s.outputs.mode = .run ∨ s.outputs.mode = .safe)
    let watch (w : Watch) : State := { s with ifu := { s.ifu with watch := w } }
    (s.steady →
      (¬sampled → exec .backfeedWatchSample s = .next s)
      ∧ (sampled → s.ifu.watch = .quiet →
          (condition → exec .backfeedWatchSample s = .next (watch (.timing 2000)))
          ∧ (¬condition → exec .backfeedWatchSample s = .next s))
      ∧ (∀ n, sampled → s.ifu.watch = .timing n →
          (¬condition → exec .backfeedWatchSample s = .next (watch .quiet))
          ∧ (condition → 0 < n → exec .backfeedWatchSample s = .next (watch (.timing (n - 100)))))
      ∧ (∀ b, sampled → s.ifu.watch = .present b → s.sense.record ≠ .dead → exec .backfeedWatchSample s = .next s))
    ∧ (sampled → s.ifu.watch = .timing 0 → condition →
        ∃ (t : State) (rs : List Report), exec .backfeedWatchSample s = .next t ∧ t.link = s.link.posts rs
          ∧ t.still = s.still ∧ t.outputs.mode = s.modeAfter .roofBackfeed .none ∧ t.ifu.backfeed = true
          ∧ (let raised := s.ifuRaised .roofBackfeed .none
             s.ice.programs = [] → t.ifu = { raised with
               watch := .present (raised.faults.any fun e => e.names .roofBackfeed .none) }))
    ∧ (∀ b, s.steady → sampled → s.ifu.watch = .present b → s.sense.record = .dead →
        ∃ (t : State) (rs : List Report), exec .backfeedWatchSample s = .next t
          ∧ t = { s with link := s.link.posts rs,
                         ifu := { s.ifu with watch := .quiet }.endOf .roofBackfeed .none } )

/-! ### AOS: outputs and modes, and the reads of the last four blocks (chapters 6 to 9) -/

/-- PRELOAD is checked as a whole: a channel or value that does not fit, a channel named twice, and BC on in CLAMP
refuse it. Accepted, it writes every value it lists and no other, and is answered with all of them; the feedback
checks follow what AOS then drives. (The channels' places 0 to 22, a setpoint's byte with 0 for off, and 0 and 1 for off
and on are log 9.) -/
def Obligations.PreloadWritesItsList : Prop :=
  ∀ (tag : Byte) (l : List PreloadItem) (s : State), s.ready → 1 ≤ l.length → l.length ≤ 23 →
    let gives (r : Result) : Prop := exec (.preload tag (.fields l)) s = .next (s.answered 0x41 tag r)
    let suits (i : PreloadItem) : Prop :=
      (i.channel < 4 ∧ (i.value = 0 ∨ (40 ≤ i.value ∧ i.value ≤ 160)))
      ∨ (4 ≤ i.channel ∧ i.channel < 22 ∧ i.value ≤ 1) ∨ (i.channel = 22 ∧ i.value ≤ 3)
    let twice := ¬(l.map PreloadItem.channel).Nodup
    let values (c : Channels) : List Nat :=
      c.rv.toList.map (fun v => v.getD 0) ++ c.qv.toList.map Bool.toNat ++ c.hz.toList.map Bool.toNat
        ++ [c.bc.toNat, c.bt.toNat, match c.sd with | .stop => 0 | .to n => n.val + 1]
    ((∃ i ∈ l, ¬suits i) → gives (.refused .outOfRange))
    ∧ ((∀ i ∈ l, suits i) → twice → gives (.refused .fieldMismatch))
    ∧ ((∀ i ∈ l, suits i) → ¬twice → s.outputs.mode = .clamp → (∃ i ∈ l, i.channel = 20 ∧ i.value = 1) →
        gives (.interlock .bcPreload))
    ∧ ((∀ i ∈ l, suits i) → ¬twice → ¬(s.outputs.mode = .clamp ∧ ∃ i ∈ l, i.channel = 20 ∧ i.value = 1) →
        ∃ c : Channels, exec (.preload tag (.fields l)) s = .next (State.recheck { s with
            link := (s.answered 0x41 tag (.ok (.preload c))).link, outputs := { s.outputs with preload := c } })
          ∧ ∀ n, n < 23 → (values c).getD n 0 = match l.find? fun i => decide (i.channel = n) with
              | some i => i.value
              | none => (values s.outputs.preload).getD n 0)

/-- OUTPUT_MODE by the mode held, in which no drive-exit timer runs. CLAMP and DRIVE are entered under the entry tests
and drive the preload values; the backfeed watch is then QUIET, and in DRIVE the heaters have no budget and no check
runs. SAFE is entered from every other mode and drives the safe values; where no program stands every pan that was
raised falls, every want, hold and claim ends, a path in CLOSING or LIVE opens, one in SELECTING, AWAIT_LINE, COASTING
or CHANGING is isolated, and any other stays. RUN is entered from CLAMP and SAFE, and in DRIVE starts the drive-exit
timer. START ends a drive session whose exit timer runs, and is refused NOT_HELD else. AOS is then in RUN and the jobs
are released, as they are by a SAFE entry from DRIVE, ahead of it: each fitted pan takes its inputs as they stand, and
one in DOWN that has left its head-down falls (that its four inputs are one event is log 64); BT follows the breaker,
and a breaker that reads open ends BREAKER_STUCK_CLOSED; ICE takes its ambient readings and feedback and evaluates,
each check begun afresh; CQM measures no pan of an isolated path. (That a value other than the four is refused
OUT_OF_RANGE while the timer runs too is log 58.) -/
def Obligations.OutputModeAndStart : Prop :=
  let released (s t : State) : Prop :=
    (∀ p, (s.pan p).fitted = true →
      let i := s.lines.pans.get p
      (t.pan p).inputs = i
      ∧ ((s.pan p).state = .down → i.headDown = true → i.headUp = false → (t.pan p).state = .down)
      ∧ ((s.pan p).state = .down → i.headDown = false ∨ i.headUp = true → (t.pan p).state = .falling
          ∧ (t.pan p).timer = some { kind := .lower, remaining := s.panTimes.lower })
      ∧ ((s.pan p).state = .tripped → (t.pan p).state = .tripped ∧ (t.pan p).trip = (s.pan p).trip
          ∧ (t.pan p).timer = (s.pan p).timer))
    ∧ t.outputs.commanded.bc = false ∧ t.outputs.commanded.bt = s.lines.breakerClosed ∧ t.outputs.commanded.sd = .stop
    ∧ t.ifu = (if s.lines.breakerClosed = true then s.ifu else s.ifu.endOf .breakerStuckClosed .path)
    ∧ t.ice.temperature = (if s.lines.ambient < -500 then -500 else if 600 < s.lines.ambient then 600
        else s.lines.ambient)
    ∧ t.ice.wet = s.lines.wet
    ∧ (∀ z, let r := t.ice.zones.get z
        r.feedback = (if r.fitted = true then s.lines.contactors.get z else (s.ice.zones.get z).feedback)
        ∧ r.check = if r.fitted = true ∧ r.feedback ≠ t.outputs.driven.hz.get z then .running 500 else .agree)
    ∧ t.ice.levels = s.ice.levels ∧ t.ice.programs = []
    ∧ t.cqm.gate = s.cqm.gate ∧ t.cqm.clock = s.cqm.clock
    ∧ ∀ p, (t.cqm.records.get p).state = .idle
        ∧ ((s.cqm.records.get p).state = .idle → t.cqm.records.get p = s.cqm.records.get p)
  (∀ (tag : Byte) (n : Nat) (s : State), s.ready →
     let run := exec (.outputMode tag (.fields n)) s
     let gives (r : Result) : Prop := run = .next (s.answered 0x42 tag r)
     let old := s.outputs.mode
     let down := ∀ p, (s.pan p).fitted = true → (s.pan p).state = .down ∨ (s.pan p).state = .tripped
     let moved (new : OutputMode) (c : Channels) (t : State) (rs : List Report) : Prop :=
       run = .next t ∧ t.still = s.still ∧ t.outputs.exitTimer = none
         ∧ (s.ice.programs = [] ∨ new = .drive ∨ new = .safe → t.outputs.mode = new ∧ t.outputs.driven =
             match new with
             | .run => t.outputs.commanded
             | .clamp | .drive => s.outputs.preload
             | .safe => Channels.safe)
         ∧ t.link = (s.answered 0x42 tag (.ok (.mode new false))).link.posts (.outputMode
             { mode := new, previous := old, timer := false, cause := .request, bc := c.bc, bt := c.bt, sd := c.sd }
             :: rs)
     (3 < n → gives (.refused .outOfRange))
     ∧ (n ≤ 3 → s.outputs.exitTimer.isSome = true → gives .mode)
     ∧ (s.outputs.exitTimer = none →
       (OutputMode.all[n]? = some old → gives (.ok (.mode old false)))
       ∧ ((old = .safe ∧ (n = 1 ∨ n = 3)) ∨ (old = .drive ∧ n = 1) → gives .mode)
       ∧ ((old = .run ∧ n = 1) ∨ ((old = .run ∨ old = .clamp) ∧ n = 3) →
           (s.path.state ≠ .isolated → gives (.interlock .path))
           ∧ (s.path.state = .isolated → ¬down → gives (.interlock .pans))
           ∧ (s.path.state = .isolated → down → n = 1 → s.outputs.preload.bc = true → gives (.interlock .bcPreload))
           ∧ (s.path.state = .isolated → down → (n = 1 → s.outputs.preload.bc = false) →
               ∃ (t : State) (rs : List Report),
                 moved (if n = 1 then .clamp else .drive) s.outputs.preload t rs ∧ t.path.state = .isolated
                 ∧ (s.ice.programs = [] → t.pans = s.pans
                     ∧ t.ifu = { s.ifu with watch := .quiet }.endOf .roofBackfeed .none)
                 ∧ (n = 3 → t.ice.budget = 0 ∧ sumOn t.ice.zones = 0
                     ∧ ∀ z, (t.ice.zones.get z).check = .agree)))
       ∧ (n = 2 → old ≠ .safe → ∃ (t : State) (rs : List Report), moved .safe Channels.safe t rs
           ∧ (old ≠ .drive → s.ice.programs = [] →
               t.path.claims = .replicate 4 .none
               ∧ (∀ p, (t.pan p).want = .none ∧ (t.pan p).hold = .none
                   ∧ (t.pan p).state = (match (s.pan p).state with
                     | .rising | .up | .dipping => .falling
                     | u => u))
               ∧ (match s.path.state with
                   | .selecting | .awaitLine | .coasting _ | .changing _ => t.path.state = .isolated
                       ∧ t.path.target = none ∧ t.outputs.commanded.sd = .stop
                   | .closing | .live => t.outputs.commanded.bc = false ∧ t.outputs.commanded.sd = .stop
                       ∧ (s.lines.breakerClosed = false → t.path.state = .isolated ∧ t.path.target = none)
                       ∧ (s.lines.breakerClosed = true → (t.path.state = .opening .request ∨ t.path.state = .opening .pan)
                           ∧ t.path.target = s.path.target ∧ t.outputs.commanded.bt = true)
                   | .isolated | .opening _ | .faulted _ => t.path = { s.path with claims := .replicate 4 .none }))
           ∧ (old = .drive → s.path.state = .isolated → down → s.ice.programs = [] →
               released s t ∧ t.ice.budget = 0 ∧ sumOn t.ice.zones = 0
               ∧ t.path = { s.path with claims := .replicate 4 .none }
               ∧ ∀ p, (t.pan p).want = .none ∧ (t.pan p).hold = .none))
       ∧ (n = 0 → old = .clamp ∨ old = .safe → ∃ (t : State) (rs : List Report),
           moved .run s.outputs.commanded t rs
           ∧ (s.ice.programs = [] → t.pans = s.pans ∧ t.path = s.path ∧ t.ifu = s.ifu
               ∧ t.ice.budget = if s.path.state = .live then ((s.descriptor s.path.target).map Descriptor.budget).getD 0
                 else s.ice.standby))
       ∧ (n = 0 → old = .drive → run = .next { s with
           outputs := { s.outputs with exitTimer := some 2000 }
           link := (s.answered 0x42 tag (.ok (.mode .drive true))).link.posts [.outputMode
             { mode := .drive, previous := .drive, timer := true, cause := .request, bc := false, bt := true,
               sd := .stop }] })))
  ∧ (∀ (tag : Byte) (s : State), s.ready →
       (s.outputs.exitTimer = none → exec (.start tag (.fields ())) s = .next (s.answered 0x43 tag (.refused .notHeld)))
       ∧ (s.outputs.exitTimer.isSome = true → ∃ (t : State) (rs : List Report),
           exec (.start tag (.fields ())) s = .next t ∧ t.still = s.still
           ∧ t.link = (s.answered 0x43 tag (.ok .nothing)).link.posts (.outputMode
               { mode := .run, previous := s.outputs.mode, timer := false, cause := .start, bc := s.outputs.commanded.bc,
                 bt := s.outputs.commanded.bt, sd := s.outputs.commanded.sd } :: rs)
           ∧ t.outputs.exitTimer = none ∧ t.held = false
           ∧ (s.path.state = .isolated →
               (∀ p, (s.pan p).fitted = true → (s.pan p).state = .down ∨ (s.pan p).state = .tripped) →
               s.ice.programs = [] →
               released s t ∧ t.path = s.path
               ∧ (∀ p, (t.pan p).want = (s.pan p).want ∧ (t.pan p).hold = (s.pan p).hold)
               ∧ State.evaluates { s with outputs := { s.outputs with mode := .run, exitTimer := none }
                                          ice := { s.ice with temperature := t.ice.temperature, wet := t.ice.wet
                                                              zones := Vector.ofFn fun z : ZoneId =>
                                                                { s.ice.zones.get z with
                                                                  feedback := (t.ice.zones.get z).feedback } } } t)))

/-- READ_PROFILE, READ_SYSTEM, READ_LINE, READ_ANNOUNCEMENTS, READ_ODOMETER, READ_PAN, READ_ICE, READ_QUALITY,
READ_FAULTS and SAMPLE carry what their blocks hold and change nothing; SAMPLE carries each channel's values with its
feedback. An empty mask has READ_PROFILE return the pass-only setting alone and READ_PAN refused EMPTY_MASK; an index
other than S1 to S8 has READ_SYSTEM refused BAD_INDEX. While a load runs READ_PAN and the last four are answered
NOT_READY. (How measurements are rounded is log 11, and a due position below 0 given as 0 is log 41.) -/
def Obligations.TheReadsCarryWhatTheBlocksHold : Prop :=
  ((∀ (tag : Byte) (m : Nat) (s : State), s.ready → m < 16 →
      exec (.readProfile tag (.fields m)) s = .next (s.answered 0x09 tag (.ok (.profiles
        ((allPans.filter fun p => m.testBit p.val).map fun p =>
          { staged0 := s.store.staged0.get p, staged1 := s.store.staged1.get p, active := s.store.active.get p,
            inForce := (s.pan p).inForce, mark := s.store.marks.get p, status := s.store.status.get p })
        s.store.passOnly))))
   ∧ (∀ (tag : Byte) (n : Nat) (s : State), s.ready →
        (n = 0 ∨ 8 < n → exec (.readSystem tag (.fields n)) s = .next (s.answered 0x0C tag (.refused .badIndex)))
        ∧ ∀ i : SysId, n = i.val + 1 →
            exec (.readSystem tag (.fields n)) s = .next (s.answered 0x0C tag (.ok (.system (s.store.descriptors.get i)
              { inForce := allPans.any fun p => decide ((s.pan p).inForce.system = some i)
                active := allPans.any fun p => decide ((s.store.active.get p).system = some i)
                target := decide (s.path.target = some i) || decide (s.path.state.next = some i)
                candidate := decide (s.sense.latest.candidate = .system i) && decide (s.path.state ≠ .isolated) }))))
   ∧ (∀ (tag : Byte) (s : State), s.ready → ∃ v : LineView,
        exec (.readLine tag (.fields ())) s = .next (s.answered 0x10 tag (.ok (.line v)))
        ∧ v.threshold = (match (s.store.descriptors.toList.filterMap fun d => d.map Descriptor.nominal).min? with
            | some n => n * 100 * 30 / 100
            | none => 300)
        ∧ v.latest = { s.sense.latest with magnitude := s.sense.latest.magnitude.map (roundBy 10)
                                           frequency := s.sense.latest.frequency.map (roundBy 10) }
        ∧ (match s.sense.record with
           | .dead => v.state = .dead ∧ v.reported = none ∧ v.runSystem = none ∧ v.runCount = none ∧ v.good = none
               ∧ v.bad = none
           | .acquiring run n => v.state = .acquiring ∧ v.reported = none ∧ v.runSystem = run ∧ v.runCount = some n
               ∧ v.good = none ∧ v.bad = none
           | .recognized i => v.state = .recognized i ∧ v.reported = some i ∧ v.runSystem = none ∧ v.runCount = none
               ∧ v.good = none ∧ v.bad = none
           | .suspect i g b => v.state = .suspect i ∧ v.reported = some i ∧ v.runSystem = none ∧ v.runCount = none
               ∧ v.good = some g ∧ v.bad = some b))
   ∧ (∀ (tag : Byte) (s : State), s.ready →
        exec (.readAnnouncements tag (.fields ())) s = .next (s.answered 0x16 tag (.ok (.announcements
          { entries := s.marker.queue.map fun a =>
              { entry := a, due := a.trigger - (20 + (s.marker.speed * s.marker.leads.of a.what + 99) / 100) }
            nextId := s.marker.nextId, odometer := s.marker.odometer, speed := s.marker.speed })))
        ∧ exec (.readOdometer tag (.fields ())) s = .next (s.answered 0x18 tag (.ok (.odometer
            { odometer := s.marker.odometer, remainder := s.marker.remainder, speed := s.marker.speed,
              perPulse := s.marker.perPulse, validation := s.marker.validation, declared := s.marker.declared,
              pairs := s.marker.history.length, telegrams := s.marker.telegrams,
              parityErrors := s.marker.parityErrors, declarations := s.marker.declarations,
              unmapped := s.marker.unmapped }))))
   ∧ (∀ (tag : Byte) (m : Nat) (s : State), s.receives → s.loaded = false →
        exec (.readPan tag (.fields m)) s = .next (s.answered 0x20 tag .notReady))
   ∧ (∀ (tag : Byte) (m : Nat) (s : State), s.ready →
        (m = 0 → exec (.readPan tag (.fields m)) s = .next (s.answered 0x20 tag (.refused .emptyMask)))
        ∧ (0 < m → m < 16 → exec (.readPan tag (.fields m)) s = .next (s.answered 0x20 tag (.ok (.pans
            ((allPans.filter fun p => m.testBit p.val).map fun p =>
              { pan := s.pan p
                force := min 160 ((s.pan p).base + (s.pan p).quality + (s.pan p).ice)
                inputs := if (s.pan p).fitted then (s.pan p).inputs else s.lines.pans.get p
                rv := s.outputs.commanded.rv.get p
                qv := s.outputs.commanded.qv.get p
                earthed := s.ifu.earthed
                airLow := s.ifu.airLow })))))))
  ∧ ((∀ (tag : Byte) (s : State), s.receives → s.loaded = false →
     exec (.readIce tag (.fields ())) s = .next (s.answered 0x30 tag .notReady)
     ∧ exec (.readQuality tag (.fields ())) s = .next (s.answered 0x38 tag .notReady)
     ∧ exec (.readFaults tag (.fields ())) s = .next (s.answered 0x3C tag .notReady)
     ∧ exec (.sample tag (.fields ())) s = .next (s.answered 0x40 tag .notReady))
   ∧ ∀ (tag : Byte) (s : State), s.ready →
     exec (.readIce tag (.fields ())) s = .next (s.answered 0x30 tag (.ok (.ice
       { zones := s.ice.zones, commanded := s.outputs.commanded.hz, driven := s.outputs.driven.hz,
         budget := s.ice.budget
         sumOn := (allZones.map fun z =>
           if (s.ice.zones.get z).state = .on then (s.ice.zones.get z).rated else 0).sum
         source := if s.outputs.mode = .safe ∨ s.outputs.mode = .drive then .mode
           else if s.path.state = .live then .live s.path.target else .standby
         temperature := s.ice.temperature, wet := s.ice.wet, icing := s.ice.icing
         cold := decide (s.ice.temperature ≤ s.ice.icing)
         weather := decide (s.ice.temperature ≤ s.ice.icing) && s.ice.wet
         levels := s.ice.levels, programs := s.ice.programs, permit := s.ice.permit, standby := s.ice.standby
         scrapeLength := s.ice.scrapeLength })))
     ∧ exec (.readQuality tag (.fields ())) s = .next (s.answered 0x38 tag (.ok (.quality
         { gate := s.cqm.gate, period := s.cqm.period, reports := s.cqm.reports, clock := s.cqm.clock
           disturb := s.cqm.disturb, clean := s.cqm.clean
           records := allPans.map fun p =>
             { record := s.cqm.records.get p, measuring := decide ((s.cqm.records.get p).state ≠ .idle)
               offset := (s.pan p).quality
               force := min 160 ((s.pan p).base + (s.pan p).quality + (s.pan p).ice) } })))
     ∧ exec (.readFaults tag (.fields ())) s = .next (s.answered 0x3C tag (.ok (.faults
         { faults := s.ifu.faults, overflow := s.ifu.overflow, earthed := s.ifu.earthed, airLow := s.ifu.airLow
           watch := s.ifu.watch
           backfeed := ((s.ifu.faults.find? fun e =>
               decide (e.kind = .roofBackfeed) && decide (e.subject = .none)).any fun e =>
                 decide (e.state ≠ .clearedUnack)) || decide (s.ifu.watch = .present false) })))
     ∧ exec (.sample tag (.fields ())) s = .next (s.answered 0x40 tag (.ok (.sample
         { mode := s.outputs.mode, exitTimer := s.outputs.exitTimer, commanded := s.outputs.commanded
           preload := s.outputs.preload
           safe := { rv := .replicate 4 none, qv := .replicate 4 true, hz := .replicate 12 false, bc := false, bt := true,
                     sd := .stop }
           driven := match s.outputs.mode, s.outputs.exitTimer with
             | .run, _ => s.outputs.commanded
             | .clamp, _ | .drive, none => s.outputs.preload
             | .safe, _ | .drive, some _ => Channels.safe
           feedback := { hz := s.lines.contactors, bc := s.lines.breakerClosed, bt := s.lines.breakerClosed
                         sd := s.lines.selector }
           lines := s.lines }))))

/-! ### Invariants of every step -/

/-- Every step keeps the outbound queue's shares, and no entry that may leave waits on an idle line (R188 to R190). -/
def Obligations.EveryStepKeepsTheQueueSound : Prop :=
  ∀ s t : State, s.link.sound → step s = .next t → t.link.sound

/-- Every step leaves each zone's feedback check as the feedback and the driven value have it (R117): what the
statements call steady. -/
def Obligations.EveryStepKeepsTheChecksSteady : Prop :=
  ∀ s t : State, s.steady → step s = .next t → t.steady

/-- Every step keeps the commanded values of the valves (RV, QV), of the path's channels (BC, BT, SD) and of the
heaters (HZ) those that the records ask for, and the zones that are on within the budget that they were allocated
(R61, R86, R115). Of BT this is said in two parts: what the path state fixes by itself is kept always, and that BT
follows the breaker feedback in the other states is kept through every step from which and to which the jobs run, and
holds at the end of a load. While the jobs are held CHG takes no feedback (R176); what a release makes of BT is not
said here. -/
def Obligations.EveryStepKeepsTheCommands : Prop :=
  ∀ s t : State, s.commandsMatch → s.ice.sound → step s = .next t →
    t.commandsMatch ∧ t.ice.sound
    ∧ ((s.loaded = true → s.jobsRun = true ∧ s.tripFollows) → t.jobsRun = true → t.tripFollows)

/-- Every step keeps the Announcement Queue and the Fault Table sound: their sizes, the queue's order, distances and
ids, and one entry for each kind and subject (R46, R154). -/
def Obligations.EveryStepKeepsTheListsSound : Prop :=
  ∀ s t : State, s.marker.sound → s.ifu.sound → step s = .next t → t.marker.sound ∧ t.ifu.sound

/-- Every step keeps the Program List sound: at most two programs, one for each pan, and none while a load runs. -/
def Obligations.EveryStepKeepsTheProgramList : Prop :=
  ∀ s t : State, s.programsSound → step s = .next t → t.programsSound

/-- Every step keeps a pan's mark set exactly while its config status is IN_PROGRESS, and the active entry of an
unmarked pan equal to its in-force profile; no unfitted pan has a mark, and none is set while a load runs (R10). -/
def Obligations.EveryStepKeepsTheMarks : Prop :=
  ∀ s t : State, s.marksSound → step s = .next t → t.marksSound

/-- Every step keeps every field of every present descriptor in its range, with a frequency and its tolerance exactly
where the kind is AC. -/
def Obligations.EveryStepKeepsTheDescriptorsInRange : Prop :=
  ∀ s t : State, s.descriptorsSound → step s = .next t → t.descriptorsSound

/-- Every step keeps the pans that are raised fit to touch one wire: each is fitted and has an in-force system whose
descriptor is present and admits its strip, they all have the same one, they are no more than its max raised, and while
the path is in a state other than ISOLATED and FAULTED it is the path's target (R65). It does so together with the
marks (R10) and with the strip test of every in-force and active system. -/
def Obligations.EveryStepKeepsTheRaisedPansOnOneSystem : Prop :=
  ∀ s t : State, s.raisedSound → step s = .next t → t.raisedSound

end Statements
end

