-- ==== Sys2Proof/Laws/State.lean ====
section
/-! SUPPORT. What each named update of the state does to each field, and what each operation on a step in progress does
to its state and its notices: every line is true by `rfl`, so that no proof unfolds an update of the record. -/

namespace Sys2Proof.Machine

/-! ### `State.putPan` -/

@[simp] theorem State.putPan_lines (s : State) (p : PanId) (r : Pan) : (s.putPan p r).lines = s.lines := rfl
@[simp] theorem State.putPan_link (s : State) (p : PanId) (r : Pan) : (s.putPan p r).link = s.link := rfl
@[simp] theorem State.putPan_loader (s : State) (p : PanId) (r : Pan) : (s.putPan p r).loader = s.loader := rfl
@[simp] theorem State.putPan_store (s : State) (p : PanId) (r : Pan) : (s.putPan p r).store = s.store := rfl
@[simp] theorem State.putPan_sense (s : State) (p : PanId) (r : Pan) : (s.putPan p r).sense = s.sense := rfl
@[simp] theorem State.putPan_marker (s : State) (p : PanId) (r : Pan) : (s.putPan p r).marker = s.marker := rfl
@[simp] theorem State.putPan_pans (s : State) (p : PanId) (r : Pan) : (s.putPan p r).pans = put s.pans p r := rfl
@[simp] theorem State.putPan_panTimes (s : State) (p : PanId) (r : Pan) : (s.putPan p r).panTimes = s.panTimes := rfl
@[simp] theorem State.putPan_path (s : State) (p : PanId) (r : Pan) : (s.putPan p r).path = s.path := rfl
@[simp] theorem State.putPan_pathTimes (s : State) (p : PanId) (r : Pan) :
    (s.putPan p r).pathTimes = s.pathTimes := rfl
@[simp] theorem State.putPan_ice (s : State) (p : PanId) (r : Pan) : (s.putPan p r).ice = s.ice := rfl
@[simp] theorem State.putPan_cqm (s : State) (p : PanId) (r : Pan) : (s.putPan p r).cqm = s.cqm := rfl
@[simp] theorem State.putPan_ifu (s : State) (p : PanId) (r : Pan) : (s.putPan p r).ifu = s.ifu := rfl
@[simp] theorem State.putPan_outputs (s : State) (p : PanId) (r : Pan) :
    (s.putPan p r).outputs = { s.outputs with commanded := { s.outputs.commanded with
      rv := put s.outputs.commanded.rv p r.rvCommand, qv := put s.outputs.commanded.qv p r.qvCommand } } := rfl
@[simp] theorem State.putPan_order (s : State) (p : PanId) (r : Pan) : (s.putPan p r).order = s.order := rfl
@[simp] theorem State.putPan_pending (s : State) (p : PanId) (r : Pan) : (s.putPan p r).pending = s.pending := rfl

/-! ### `State.commandPath` -/

@[simp] theorem State.commandPath_lines (s : State) : s.commandPath.lines = s.lines := rfl
@[simp] theorem State.commandPath_link (s : State) : s.commandPath.link = s.link := rfl
@[simp] theorem State.commandPath_loader (s : State) : s.commandPath.loader = s.loader := rfl
@[simp] theorem State.commandPath_store (s : State) : s.commandPath.store = s.store := rfl
@[simp] theorem State.commandPath_sense (s : State) : s.commandPath.sense = s.sense := rfl
@[simp] theorem State.commandPath_marker (s : State) : s.commandPath.marker = s.marker := rfl
@[simp] theorem State.commandPath_pans (s : State) : s.commandPath.pans = s.pans := rfl
@[simp] theorem State.commandPath_panTimes (s : State) : s.commandPath.panTimes = s.panTimes := rfl
@[simp] theorem State.commandPath_path (s : State) : s.commandPath.path = s.path := rfl
@[simp] theorem State.commandPath_pathTimes (s : State) : s.commandPath.pathTimes = s.pathTimes := rfl
@[simp] theorem State.commandPath_ice (s : State) : s.commandPath.ice = s.ice := rfl
@[simp] theorem State.commandPath_cqm (s : State) : s.commandPath.cqm = s.cqm := rfl
@[simp] theorem State.commandPath_ifu (s : State) : s.commandPath.ifu = s.ifu := rfl
@[simp] theorem State.commandPath_outputs (s : State) :
    s.commandPath.outputs = { s.outputs with commanded := { s.outputs.commanded with
      bc := s.path.state.bcCommand, bt := s.path.state.btCommand s.lines.breakerClosed,
      sd := s.path.state.sdCommand (s.targetPosition s.path.target) } } := rfl
@[simp] theorem State.commandPath_order (s : State) : s.commandPath.order = s.order := rfl
@[simp] theorem State.commandPath_pending (s : State) : s.commandPath.pending = s.pending := rfl

/-! ### `State.commandHeaters` -/

@[simp] theorem State.commandHeaters_lines (s : State) : s.commandHeaters.lines = s.lines := rfl
@[simp] theorem State.commandHeaters_link (s : State) : s.commandHeaters.link = s.link := rfl
@[simp] theorem State.commandHeaters_loader (s : State) : s.commandHeaters.loader = s.loader := rfl
@[simp] theorem State.commandHeaters_store (s : State) : s.commandHeaters.store = s.store := rfl
@[simp] theorem State.commandHeaters_sense (s : State) : s.commandHeaters.sense = s.sense := rfl
@[simp] theorem State.commandHeaters_marker (s : State) : s.commandHeaters.marker = s.marker := rfl
@[simp] theorem State.commandHeaters_pans (s : State) : s.commandHeaters.pans = s.pans := rfl
@[simp] theorem State.commandHeaters_panTimes (s : State) : s.commandHeaters.panTimes = s.panTimes := rfl
@[simp] theorem State.commandHeaters_path (s : State) : s.commandHeaters.path = s.path := rfl
@[simp] theorem State.commandHeaters_pathTimes (s : State) : s.commandHeaters.pathTimes = s.pathTimes := rfl
@[simp] theorem State.commandHeaters_ice (s : State) : s.commandHeaters.ice = s.ice := rfl
@[simp] theorem State.commandHeaters_cqm (s : State) : s.commandHeaters.cqm = s.cqm := rfl
@[simp] theorem State.commandHeaters_ifu (s : State) : s.commandHeaters.ifu = s.ifu := rfl
@[simp] theorem State.commandHeaters_outputs (s : State) :
    s.commandHeaters.outputs = { s.outputs with commanded := { s.outputs.commanded with
      hz := s.ice.zones.map fun z => decide (z.state = .on) } } := rfl
@[simp] theorem State.commandHeaters_order (s : State) : s.commandHeaters.order = s.order := rfl
@[simp] theorem State.commandHeaters_pending (s : State) : s.commandHeaters.pending = s.pending := rfl

/-! ### `State.setClaim` -/

@[simp] theorem State.setClaim_lines (s : State) (p : PanId) (c : Claim) : (s.setClaim p c).lines = s.lines := rfl
@[simp] theorem State.setClaim_link (s : State) (p : PanId) (c : Claim) : (s.setClaim p c).link = s.link := rfl
@[simp] theorem State.setClaim_loader (s : State) (p : PanId) (c : Claim) : (s.setClaim p c).loader = s.loader := rfl
@[simp] theorem State.setClaim_store (s : State) (p : PanId) (c : Claim) : (s.setClaim p c).store = s.store := rfl
@[simp] theorem State.setClaim_sense (s : State) (p : PanId) (c : Claim) : (s.setClaim p c).sense = s.sense := rfl
@[simp] theorem State.setClaim_marker (s : State) (p : PanId) (c : Claim) : (s.setClaim p c).marker = s.marker := rfl
@[simp] theorem State.setClaim_pans (s : State) (p : PanId) (c : Claim) : (s.setClaim p c).pans = s.pans := rfl
@[simp] theorem State.setClaim_panTimes (s : State) (p : PanId) (c : Claim) :
    (s.setClaim p c).panTimes = s.panTimes := rfl
@[simp] theorem State.setClaim_path (s : State) (p : PanId) (c : Claim) :
    (s.setClaim p c).path = { s.path with claims := put s.path.claims p c } := rfl
@[simp] theorem State.setClaim_pathTimes (s : State) (p : PanId) (c : Claim) :
    (s.setClaim p c).pathTimes = s.pathTimes := rfl
@[simp] theorem State.setClaim_ice (s : State) (p : PanId) (c : Claim) : (s.setClaim p c).ice = s.ice := rfl
@[simp] theorem State.setClaim_cqm (s : State) (p : PanId) (c : Claim) : (s.setClaim p c).cqm = s.cqm := rfl
@[simp] theorem State.setClaim_ifu (s : State) (p : PanId) (c : Claim) : (s.setClaim p c).ifu = s.ifu := rfl
@[simp] theorem State.setClaim_outputs (s : State) (p : PanId) (c : Claim) :
    (s.setClaim p c).outputs = s.outputs := rfl
@[simp] theorem State.setClaim_order (s : State) (p : PanId) (c : Claim) : (s.setClaim p c).order = s.order := rfl
@[simp] theorem State.setClaim_pending (s : State) (p : PanId) (c : Claim) :
    (s.setClaim p c).pending = s.pending := rfl

/-! ### `State.putQuality` -/

@[simp] theorem State.putQuality_lines (s : State) (p : PanId) (r : QualityRecord) :
    (s.putQuality p r).lines = s.lines := rfl
@[simp] theorem State.putQuality_link (s : State) (p : PanId) (r : QualityRecord) :
    (s.putQuality p r).link = s.link := rfl
@[simp] theorem State.putQuality_loader (s : State) (p : PanId) (r : QualityRecord) :
    (s.putQuality p r).loader = s.loader := rfl
@[simp] theorem State.putQuality_store (s : State) (p : PanId) (r : QualityRecord) :
    (s.putQuality p r).store = s.store := rfl
@[simp] theorem State.putQuality_sense (s : State) (p : PanId) (r : QualityRecord) :
    (s.putQuality p r).sense = s.sense := rfl
@[simp] theorem State.putQuality_marker (s : State) (p : PanId) (r : QualityRecord) :
    (s.putQuality p r).marker = s.marker := rfl
@[simp] theorem State.putQuality_pans (s : State) (p : PanId) (r : QualityRecord) :
    (s.putQuality p r).pans = s.pans := rfl
@[simp] theorem State.putQuality_panTimes (s : State) (p : PanId) (r : QualityRecord) :
    (s.putQuality p r).panTimes = s.panTimes := rfl
@[simp] theorem State.putQuality_path (s : State) (p : PanId) (r : QualityRecord) :
    (s.putQuality p r).path = s.path := rfl
@[simp] theorem State.putQuality_pathTimes (s : State) (p : PanId) (r : QualityRecord) :
    (s.putQuality p r).pathTimes = s.pathTimes := rfl
@[simp] theorem State.putQuality_ice (s : State) (p : PanId) (r : QualityRecord) :
    (s.putQuality p r).ice = s.ice := rfl
@[simp] theorem State.putQuality_cqm (s : State) (p : PanId) (r : QualityRecord) :
    (s.putQuality p r).cqm = { s.cqm with records := put s.cqm.records p r } := rfl
@[simp] theorem State.putQuality_ifu (s : State) (p : PanId) (r : QualityRecord) :
    (s.putQuality p r).ifu = s.ifu := rfl
@[simp] theorem State.putQuality_outputs (s : State) (p : PanId) (r : QualityRecord) :
    (s.putQuality p r).outputs = s.outputs := rfl
@[simp] theorem State.putQuality_order (s : State) (p : PanId) (r : QualityRecord) :
    (s.putQuality p r).order = s.order := rfl
@[simp] theorem State.putQuality_pending (s : State) (p : PanId) (r : QualityRecord) :
    (s.putQuality p r).pending = s.pending := rfl

/-! ### `State.describe` -/

@[simp] theorem State.describe_lines (s : State) (i : SysId) (d : Option Descriptor) :
    (s.describe i d).lines = s.lines := rfl
@[simp] theorem State.describe_link (s : State) (i : SysId) (d : Option Descriptor) :
    (s.describe i d).link = s.link := rfl
@[simp] theorem State.describe_loader (s : State) (i : SysId) (d : Option Descriptor) :
    (s.describe i d).loader = s.loader := rfl
@[simp] theorem State.describe_store (s : State) (i : SysId) (d : Option Descriptor) :
    (s.describe i d).store = { s.store with descriptors := put s.store.descriptors i d } := rfl
@[simp] theorem State.describe_sense (s : State) (i : SysId) (d : Option Descriptor) :
    (s.describe i d).sense = s.sense := rfl
@[simp] theorem State.describe_marker (s : State) (i : SysId) (d : Option Descriptor) :
    (s.describe i d).marker = s.marker := rfl
@[simp] theorem State.describe_pans (s : State) (i : SysId) (d : Option Descriptor) :
    (s.describe i d).pans = s.pans := rfl
@[simp] theorem State.describe_panTimes (s : State) (i : SysId) (d : Option Descriptor) :
    (s.describe i d).panTimes = s.panTimes := rfl
@[simp] theorem State.describe_path (s : State) (i : SysId) (d : Option Descriptor) :
    (s.describe i d).path = s.path := rfl
@[simp] theorem State.describe_pathTimes (s : State) (i : SysId) (d : Option Descriptor) :
    (s.describe i d).pathTimes = s.pathTimes := rfl
@[simp] theorem State.describe_ice (s : State) (i : SysId) (d : Option Descriptor) :
    (s.describe i d).ice = s.ice := rfl
@[simp] theorem State.describe_cqm (s : State) (i : SysId) (d : Option Descriptor) :
    (s.describe i d).cqm = s.cqm := rfl
@[simp] theorem State.describe_ifu (s : State) (i : SysId) (d : Option Descriptor) :
    (s.describe i d).ifu = s.ifu := rfl
@[simp] theorem State.describe_outputs (s : State) (i : SysId) (d : Option Descriptor) :
    (s.describe i d).outputs = s.outputs := rfl
@[simp] theorem State.describe_order (s : State) (i : SysId) (d : Option Descriptor) :
    (s.describe i d).order = s.order := rfl
@[simp] theorem State.describe_pending (s : State) (i : SysId) (d : Option Descriptor) :
    (s.describe i d).pending = s.pending := rfl

/-! ### `State.onLink` -/

@[simp] theorem State.onLink_lines (s : State) (f : Link → Link) : (s.onLink f).lines = s.lines := rfl
@[simp] theorem State.onLink_link (s : State) (f : Link → Link) : (s.onLink f).link = f s.link := rfl
@[simp] theorem State.onLink_loader (s : State) (f : Link → Link) : (s.onLink f).loader = s.loader := rfl
@[simp] theorem State.onLink_store (s : State) (f : Link → Link) : (s.onLink f).store = s.store := rfl
@[simp] theorem State.onLink_sense (s : State) (f : Link → Link) : (s.onLink f).sense = s.sense := rfl
@[simp] theorem State.onLink_marker (s : State) (f : Link → Link) : (s.onLink f).marker = s.marker := rfl
@[simp] theorem State.onLink_pans (s : State) (f : Link → Link) : (s.onLink f).pans = s.pans := rfl
@[simp] theorem State.onLink_panTimes (s : State) (f : Link → Link) : (s.onLink f).panTimes = s.panTimes := rfl
@[simp] theorem State.onLink_path (s : State) (f : Link → Link) : (s.onLink f).path = s.path := rfl
@[simp] theorem State.onLink_pathTimes (s : State) (f : Link → Link) : (s.onLink f).pathTimes = s.pathTimes := rfl
@[simp] theorem State.onLink_ice (s : State) (f : Link → Link) : (s.onLink f).ice = s.ice := rfl
@[simp] theorem State.onLink_cqm (s : State) (f : Link → Link) : (s.onLink f).cqm = s.cqm := rfl
@[simp] theorem State.onLink_ifu (s : State) (f : Link → Link) : (s.onLink f).ifu = s.ifu := rfl
@[simp] theorem State.onLink_outputs (s : State) (f : Link → Link) : (s.onLink f).outputs = s.outputs := rfl
@[simp] theorem State.onLink_order (s : State) (f : Link → Link) : (s.onLink f).order = s.order := rfl
@[simp] theorem State.onLink_pending (s : State) (f : Link → Link) : (s.onLink f).pending = s.pending := rfl

/-! ### `State.setBus` -/

@[simp] theorem State.setBus_lines (s : State) (v : Int) : (s.setBus v).lines = { s.lines with bus := v } := rfl
@[simp] theorem State.setBus_link (s : State) (v : Int) : (s.setBus v).link = s.link := rfl
@[simp] theorem State.setBus_loader (s : State) (v : Int) : (s.setBus v).loader = s.loader := rfl
@[simp] theorem State.setBus_store (s : State) (v : Int) : (s.setBus v).store = s.store := rfl
@[simp] theorem State.setBus_sense (s : State) (v : Int) : (s.setBus v).sense = s.sense := rfl
@[simp] theorem State.setBus_marker (s : State) (v : Int) : (s.setBus v).marker = s.marker := rfl
@[simp] theorem State.setBus_pans (s : State) (v : Int) : (s.setBus v).pans = s.pans := rfl
@[simp] theorem State.setBus_panTimes (s : State) (v : Int) : (s.setBus v).panTimes = s.panTimes := rfl
@[simp] theorem State.setBus_path (s : State) (v : Int) : (s.setBus v).path = s.path := rfl
@[simp] theorem State.setBus_pathTimes (s : State) (v : Int) : (s.setBus v).pathTimes = s.pathTimes := rfl
@[simp] theorem State.setBus_ice (s : State) (v : Int) : (s.setBus v).ice = s.ice := rfl
@[simp] theorem State.setBus_cqm (s : State) (v : Int) : (s.setBus v).cqm = s.cqm := rfl
@[simp] theorem State.setBus_ifu (s : State) (v : Int) : (s.setBus v).ifu = s.ifu := rfl
@[simp] theorem State.setBus_outputs (s : State) (v : Int) : (s.setBus v).outputs = s.outputs := rfl
@[simp] theorem State.setBus_order (s : State) (v : Int) : (s.setBus v).order = s.order := rfl
@[simp] theorem State.setBus_pending (s : State) (v : Int) : (s.setBus v).pending = s.pending := rfl

/-! ### `State.setPanLine` -/

@[simp] theorem State.setPanLine_lines (s : State) (p : PanId) (k : PanInput) (b : Bool) :
    (s.setPanLine p k b).lines = { s.lines with pans := put s.lines.pans p ((s.lines.pans.get p).with k b) } := rfl
@[simp] theorem State.setPanLine_link (s : State) (p : PanId) (k : PanInput) (b : Bool) :
    (s.setPanLine p k b).link = s.link := rfl
@[simp] theorem State.setPanLine_loader (s : State) (p : PanId) (k : PanInput) (b : Bool) :
    (s.setPanLine p k b).loader = s.loader := rfl
@[simp] theorem State.setPanLine_store (s : State) (p : PanId) (k : PanInput) (b : Bool) :
    (s.setPanLine p k b).store = s.store := rfl
@[simp] theorem State.setPanLine_sense (s : State) (p : PanId) (k : PanInput) (b : Bool) :
    (s.setPanLine p k b).sense = s.sense := rfl
@[simp] theorem State.setPanLine_marker (s : State) (p : PanId) (k : PanInput) (b : Bool) :
    (s.setPanLine p k b).marker = s.marker := rfl
@[simp] theorem State.setPanLine_pans (s : State) (p : PanId) (k : PanInput) (b : Bool) :
    (s.setPanLine p k b).pans = s.pans := rfl
@[simp] theorem State.setPanLine_panTimes (s : State) (p : PanId) (k : PanInput) (b : Bool) :
    (s.setPanLine p k b).panTimes = s.panTimes := rfl
@[simp] theorem State.setPanLine_path (s : State) (p : PanId) (k : PanInput) (b : Bool) :
    (s.setPanLine p k b).path = s.path := rfl
@[simp] theorem State.setPanLine_pathTimes (s : State) (p : PanId) (k : PanInput) (b : Bool) :
    (s.setPanLine p k b).pathTimes = s.pathTimes := rfl
@[simp] theorem State.setPanLine_ice (s : State) (p : PanId) (k : PanInput) (b : Bool) :
    (s.setPanLine p k b).ice = s.ice := rfl
@[simp] theorem State.setPanLine_cqm (s : State) (p : PanId) (k : PanInput) (b : Bool) :
    (s.setPanLine p k b).cqm = s.cqm := rfl
@[simp] theorem State.setPanLine_ifu (s : State) (p : PanId) (k : PanInput) (b : Bool) :
    (s.setPanLine p k b).ifu = s.ifu := rfl
@[simp] theorem State.setPanLine_outputs (s : State) (p : PanId) (k : PanInput) (b : Bool) :
    (s.setPanLine p k b).outputs = s.outputs := rfl
@[simp] theorem State.setPanLine_order (s : State) (p : PanId) (k : PanInput) (b : Bool) :
    (s.setPanLine p k b).order = s.order := rfl
@[simp] theorem State.setPanLine_pending (s : State) (p : PanId) (k : PanInput) (b : Bool) :
    (s.setPanLine p k b).pending = s.pending := rfl

/-! ### `State.setBreakerLine` -/

@[simp] theorem State.setBreakerLine_lines (s : State) (b : Bool) :
    (s.setBreakerLine b).lines = { s.lines with breakerClosed := b } := rfl
@[simp] theorem State.setBreakerLine_link (s : State) (b : Bool) : (s.setBreakerLine b).link = s.link := rfl
@[simp] theorem State.setBreakerLine_loader (s : State) (b : Bool) : (s.setBreakerLine b).loader = s.loader := rfl
@[simp] theorem State.setBreakerLine_store (s : State) (b : Bool) : (s.setBreakerLine b).store = s.store := rfl
@[simp] theorem State.setBreakerLine_sense (s : State) (b : Bool) : (s.setBreakerLine b).sense = s.sense := rfl
@[simp] theorem State.setBreakerLine_marker (s : State) (b : Bool) : (s.setBreakerLine b).marker = s.marker := rfl
@[simp] theorem State.setBreakerLine_pans (s : State) (b : Bool) : (s.setBreakerLine b).pans = s.pans := rfl
@[simp] theorem State.setBreakerLine_panTimes (s : State) (b : Bool) :
    (s.setBreakerLine b).panTimes = s.panTimes := rfl
@[simp] theorem State.setBreakerLine_path (s : State) (b : Bool) : (s.setBreakerLine b).path = s.path := rfl
@[simp] theorem State.setBreakerLine_pathTimes (s : State) (b : Bool) :
    (s.setBreakerLine b).pathTimes = s.pathTimes := rfl
@[simp] theorem State.setBreakerLine_ice (s : State) (b : Bool) : (s.setBreakerLine b).ice = s.ice := rfl
@[simp] theorem State.setBreakerLine_cqm (s : State) (b : Bool) : (s.setBreakerLine b).cqm = s.cqm := rfl
@[simp] theorem State.setBreakerLine_ifu (s : State) (b : Bool) : (s.setBreakerLine b).ifu = s.ifu := rfl
@[simp] theorem State.setBreakerLine_outputs (s : State) (b : Bool) : (s.setBreakerLine b).outputs = s.outputs := rfl
@[simp] theorem State.setBreakerLine_order (s : State) (b : Bool) : (s.setBreakerLine b).order = s.order := rfl
@[simp] theorem State.setBreakerLine_pending (s : State) (b : Bool) : (s.setBreakerLine b).pending = s.pending := rfl

/-! ### `State.setSelectorLine` -/

@[simp] theorem State.setSelectorLine_lines (s : State) (n : Option Position) :
    (s.setSelectorLine n).lines = { s.lines with selector := n } := rfl
@[simp] theorem State.setSelectorLine_link (s : State) (n : Option Position) :
    (s.setSelectorLine n).link = s.link := rfl
@[simp] theorem State.setSelectorLine_loader (s : State) (n : Option Position) :
    (s.setSelectorLine n).loader = s.loader := rfl
@[simp] theorem State.setSelectorLine_store (s : State) (n : Option Position) :
    (s.setSelectorLine n).store = s.store := rfl
@[simp] theorem State.setSelectorLine_sense (s : State) (n : Option Position) :
    (s.setSelectorLine n).sense = s.sense := rfl
@[simp] theorem State.setSelectorLine_marker (s : State) (n : Option Position) :
    (s.setSelectorLine n).marker = s.marker := rfl
@[simp] theorem State.setSelectorLine_pans (s : State) (n : Option Position) :
    (s.setSelectorLine n).pans = s.pans := rfl
@[simp] theorem State.setSelectorLine_panTimes (s : State) (n : Option Position) :
    (s.setSelectorLine n).panTimes = s.panTimes := rfl
@[simp] theorem State.setSelectorLine_path (s : State) (n : Option Position) :
    (s.setSelectorLine n).path = s.path := rfl
@[simp] theorem State.setSelectorLine_pathTimes (s : State) (n : Option Position) :
    (s.setSelectorLine n).pathTimes = s.pathTimes := rfl
@[simp] theorem State.setSelectorLine_ice (s : State) (n : Option Position) :
    (s.setSelectorLine n).ice = s.ice := rfl
@[simp] theorem State.setSelectorLine_cqm (s : State) (n : Option Position) :
    (s.setSelectorLine n).cqm = s.cqm := rfl
@[simp] theorem State.setSelectorLine_ifu (s : State) (n : Option Position) :
    (s.setSelectorLine n).ifu = s.ifu := rfl
@[simp] theorem State.setSelectorLine_outputs (s : State) (n : Option Position) :
    (s.setSelectorLine n).outputs = s.outputs := rfl
@[simp] theorem State.setSelectorLine_order (s : State) (n : Option Position) :
    (s.setSelectorLine n).order = s.order := rfl
@[simp] theorem State.setSelectorLine_pending (s : State) (n : Option Position) :
    (s.setSelectorLine n).pending = s.pending := rfl

/-! ### `State.setAmbientLine` -/

@[simp] theorem State.setAmbientLine_lines (s : State) (n : Int) :
    (s.setAmbientLine n).lines = { s.lines with ambient := n } := rfl
@[simp] theorem State.setAmbientLine_link (s : State) (n : Int) : (s.setAmbientLine n).link = s.link := rfl
@[simp] theorem State.setAmbientLine_loader (s : State) (n : Int) : (s.setAmbientLine n).loader = s.loader := rfl
@[simp] theorem State.setAmbientLine_store (s : State) (n : Int) : (s.setAmbientLine n).store = s.store := rfl
@[simp] theorem State.setAmbientLine_sense (s : State) (n : Int) : (s.setAmbientLine n).sense = s.sense := rfl
@[simp] theorem State.setAmbientLine_marker (s : State) (n : Int) : (s.setAmbientLine n).marker = s.marker := rfl
@[simp] theorem State.setAmbientLine_pans (s : State) (n : Int) : (s.setAmbientLine n).pans = s.pans := rfl
@[simp] theorem State.setAmbientLine_panTimes (s : State) (n : Int) :
    (s.setAmbientLine n).panTimes = s.panTimes := rfl
@[simp] theorem State.setAmbientLine_path (s : State) (n : Int) : (s.setAmbientLine n).path = s.path := rfl
@[simp] theorem State.setAmbientLine_pathTimes (s : State) (n : Int) :
    (s.setAmbientLine n).pathTimes = s.pathTimes := rfl
@[simp] theorem State.setAmbientLine_ice (s : State) (n : Int) : (s.setAmbientLine n).ice = s.ice := rfl
@[simp] theorem State.setAmbientLine_cqm (s : State) (n : Int) : (s.setAmbientLine n).cqm = s.cqm := rfl
@[simp] theorem State.setAmbientLine_ifu (s : State) (n : Int) : (s.setAmbientLine n).ifu = s.ifu := rfl
@[simp] theorem State.setAmbientLine_outputs (s : State) (n : Int) : (s.setAmbientLine n).outputs = s.outputs := rfl
@[simp] theorem State.setAmbientLine_order (s : State) (n : Int) : (s.setAmbientLine n).order = s.order := rfl
@[simp] theorem State.setAmbientLine_pending (s : State) (n : Int) : (s.setAmbientLine n).pending = s.pending := rfl

/-! ### `State.setWetLine` -/

@[simp] theorem State.setWetLine_lines (s : State) (b : Bool) :
    (s.setWetLine b).lines = { s.lines with wet := b } := rfl
@[simp] theorem State.setWetLine_link (s : State) (b : Bool) : (s.setWetLine b).link = s.link := rfl
@[simp] theorem State.setWetLine_loader (s : State) (b : Bool) : (s.setWetLine b).loader = s.loader := rfl
@[simp] theorem State.setWetLine_store (s : State) (b : Bool) : (s.setWetLine b).store = s.store := rfl
@[simp] theorem State.setWetLine_sense (s : State) (b : Bool) : (s.setWetLine b).sense = s.sense := rfl
@[simp] theorem State.setWetLine_marker (s : State) (b : Bool) : (s.setWetLine b).marker = s.marker := rfl
@[simp] theorem State.setWetLine_pans (s : State) (b : Bool) : (s.setWetLine b).pans = s.pans := rfl
@[simp] theorem State.setWetLine_panTimes (s : State) (b : Bool) : (s.setWetLine b).panTimes = s.panTimes := rfl
@[simp] theorem State.setWetLine_path (s : State) (b : Bool) : (s.setWetLine b).path = s.path := rfl
@[simp] theorem State.setWetLine_pathTimes (s : State) (b : Bool) : (s.setWetLine b).pathTimes = s.pathTimes := rfl
@[simp] theorem State.setWetLine_ice (s : State) (b : Bool) : (s.setWetLine b).ice = s.ice := rfl
@[simp] theorem State.setWetLine_cqm (s : State) (b : Bool) : (s.setWetLine b).cqm = s.cqm := rfl
@[simp] theorem State.setWetLine_ifu (s : State) (b : Bool) : (s.setWetLine b).ifu = s.ifu := rfl
@[simp] theorem State.setWetLine_outputs (s : State) (b : Bool) : (s.setWetLine b).outputs = s.outputs := rfl
@[simp] theorem State.setWetLine_order (s : State) (b : Bool) : (s.setWetLine b).order = s.order := rfl
@[simp] theorem State.setWetLine_pending (s : State) (b : Bool) : (s.setWetLine b).pending = s.pending := rfl

/-! ### `State.setContactorLine` -/

@[simp] theorem State.setContactorLine_lines (s : State) (z : ZoneId) (b : Bool) :
    (s.setContactorLine z b).lines = { s.lines with contactors := put s.lines.contactors z b } := rfl
@[simp] theorem State.setContactorLine_link (s : State) (z : ZoneId) (b : Bool) :
    (s.setContactorLine z b).link = s.link := rfl
@[simp] theorem State.setContactorLine_loader (s : State) (z : ZoneId) (b : Bool) :
    (s.setContactorLine z b).loader = s.loader := rfl
@[simp] theorem State.setContactorLine_store (s : State) (z : ZoneId) (b : Bool) :
    (s.setContactorLine z b).store = s.store := rfl
@[simp] theorem State.setContactorLine_sense (s : State) (z : ZoneId) (b : Bool) :
    (s.setContactorLine z b).sense = s.sense := rfl
@[simp] theorem State.setContactorLine_marker (s : State) (z : ZoneId) (b : Bool) :
    (s.setContactorLine z b).marker = s.marker := rfl
@[simp] theorem State.setContactorLine_pans (s : State) (z : ZoneId) (b : Bool) :
    (s.setContactorLine z b).pans = s.pans := rfl
@[simp] theorem State.setContactorLine_panTimes (s : State) (z : ZoneId) (b : Bool) :
    (s.setContactorLine z b).panTimes = s.panTimes := rfl
@[simp] theorem State.setContactorLine_path (s : State) (z : ZoneId) (b : Bool) :
    (s.setContactorLine z b).path = s.path := rfl
@[simp] theorem State.setContactorLine_pathTimes (s : State) (z : ZoneId) (b : Bool) :
    (s.setContactorLine z b).pathTimes = s.pathTimes := rfl
@[simp] theorem State.setContactorLine_ice (s : State) (z : ZoneId) (b : Bool) :
    (s.setContactorLine z b).ice = s.ice := rfl
@[simp] theorem State.setContactorLine_cqm (s : State) (z : ZoneId) (b : Bool) :
    (s.setContactorLine z b).cqm = s.cqm := rfl
@[simp] theorem State.setContactorLine_ifu (s : State) (z : ZoneId) (b : Bool) :
    (s.setContactorLine z b).ifu = s.ifu := rfl
@[simp] theorem State.setContactorLine_outputs (s : State) (z : ZoneId) (b : Bool) :
    (s.setContactorLine z b).outputs = s.outputs := rfl
@[simp] theorem State.setContactorLine_order (s : State) (z : ZoneId) (b : Bool) :
    (s.setContactorLine z b).order = s.order := rfl
@[simp] theorem State.setContactorLine_pending (s : State) (z : ZoneId) (b : Bool) :
    (s.setContactorLine z b).pending = s.pending := rfl

/-! ### `State.setArcLine` -/

@[simp] theorem State.setArcLine_lines (s : State) (b : Bool) :
    (s.setArcLine b).lines = { s.lines with arcPulse := b } := rfl
@[simp] theorem State.setArcLine_link (s : State) (b : Bool) : (s.setArcLine b).link = s.link := rfl
@[simp] theorem State.setArcLine_loader (s : State) (b : Bool) : (s.setArcLine b).loader = s.loader := rfl
@[simp] theorem State.setArcLine_store (s : State) (b : Bool) : (s.setArcLine b).store = s.store := rfl
@[simp] theorem State.setArcLine_sense (s : State) (b : Bool) : (s.setArcLine b).sense = s.sense := rfl
@[simp] theorem State.setArcLine_marker (s : State) (b : Bool) : (s.setArcLine b).marker = s.marker := rfl
@[simp] theorem State.setArcLine_pans (s : State) (b : Bool) : (s.setArcLine b).pans = s.pans := rfl
@[simp] theorem State.setArcLine_panTimes (s : State) (b : Bool) : (s.setArcLine b).panTimes = s.panTimes := rfl
@[simp] theorem State.setArcLine_path (s : State) (b : Bool) : (s.setArcLine b).path = s.path := rfl
@[simp] theorem State.setArcLine_pathTimes (s : State) (b : Bool) : (s.setArcLine b).pathTimes = s.pathTimes := rfl
@[simp] theorem State.setArcLine_ice (s : State) (b : Bool) : (s.setArcLine b).ice = s.ice := rfl
@[simp] theorem State.setArcLine_cqm (s : State) (b : Bool) : (s.setArcLine b).cqm = s.cqm := rfl
@[simp] theorem State.setArcLine_ifu (s : State) (b : Bool) : (s.setArcLine b).ifu = s.ifu := rfl
@[simp] theorem State.setArcLine_outputs (s : State) (b : Bool) : (s.setArcLine b).outputs = s.outputs := rfl
@[simp] theorem State.setArcLine_order (s : State) (b : Bool) : (s.setArcLine b).order = s.order := rfl
@[simp] theorem State.setArcLine_pending (s : State) (b : Bool) : (s.setArcLine b).pending = s.pending := rfl

/-! ### `State.setResetLine` -/

@[simp] theorem State.setResetLine_lines (s : State) (b : Bool) :
    (s.setResetLine b).lines = { s.lines with resetAsserted := b } := rfl
@[simp] theorem State.setResetLine_link (s : State) (b : Bool) : (s.setResetLine b).link = s.link := rfl
@[simp] theorem State.setResetLine_loader (s : State) (b : Bool) : (s.setResetLine b).loader = s.loader := rfl
@[simp] theorem State.setResetLine_store (s : State) (b : Bool) : (s.setResetLine b).store = s.store := rfl
@[simp] theorem State.setResetLine_sense (s : State) (b : Bool) : (s.setResetLine b).sense = s.sense := rfl
@[simp] theorem State.setResetLine_marker (s : State) (b : Bool) : (s.setResetLine b).marker = s.marker := rfl
@[simp] theorem State.setResetLine_pans (s : State) (b : Bool) : (s.setResetLine b).pans = s.pans := rfl
@[simp] theorem State.setResetLine_panTimes (s : State) (b : Bool) : (s.setResetLine b).panTimes = s.panTimes := rfl
@[simp] theorem State.setResetLine_path (s : State) (b : Bool) : (s.setResetLine b).path = s.path := rfl
@[simp] theorem State.setResetLine_pathTimes (s : State) (b : Bool) :
    (s.setResetLine b).pathTimes = s.pathTimes := rfl
@[simp] theorem State.setResetLine_ice (s : State) (b : Bool) : (s.setResetLine b).ice = s.ice := rfl
@[simp] theorem State.setResetLine_cqm (s : State) (b : Bool) : (s.setResetLine b).cqm = s.cqm := rfl
@[simp] theorem State.setResetLine_ifu (s : State) (b : Bool) : (s.setResetLine b).ifu = s.ifu := rfl
@[simp] theorem State.setResetLine_outputs (s : State) (b : Bool) : (s.setResetLine b).outputs = s.outputs := rfl
@[simp] theorem State.setResetLine_order (s : State) (b : Bool) : (s.setResetLine b).order = s.order := rfl
@[simp] theorem State.setResetLine_pending (s : State) (b : Bool) : (s.setResetLine b).pending = s.pending := rfl

/-! ### `State.writeInForce`: the record of the pan as `State.putPan` has it -/

theorem State.writeInForce_eq (s : State) (p : PanId) (f : Profile) :
    s.writeInForce p f = s.putPan p { s.pan p with inForce := f, base := s.forceBase f } := rfl

/-! ### Operations on a step in progress -/

@[simp] theorem Sys.edit_st (y : Sys) (f : State → State) : (y.edit f).st = f y.st := rfl
@[simp] theorem Sys.edit_todo (y : Sys) (f : State → State) : (y.edit f).todo = y.todo := rfl
@[simp] theorem Sys.post_st (y : Sys) (r : Report) : (y.post r).st = { y.st with link := y.st.link.post r } := rfl
@[simp] theorem Sys.post_todo (y : Sys) (r : Report) : (y.post r).todo = y.todo := rfl
@[simp] theorem Sys.answer_st (y : Sys) (c : Call) (r : Result) :
    (y.answer c r).st = { y.st with link := y.st.link.reply { code := c.code, tag := c.tag, result := r } } := rfl
@[simp] theorem Sys.answer_todo (y : Sys) (c : Call) (r : Result) : (y.answer c r).todo = y.todo := rfl
@[simp] theorem Sys.refuse_st (y : Sys) (c : Call) (r : Reason) :
    (y.refuse c r).st = { y.st with link := y.st.link.reply { code := c.code, tag := c.tag, result := .refused r } } := rfl
@[simp] theorem Sys.refuse_todo (y : Sys) (c : Call) (r : Reason) : (y.refuse c r).todo = y.todo := rfl
@[simp] theorem Sys.send_st (y : Sys) (n : Notice) : (y.send n).st = y.st := rfl
@[simp] theorem Sys.send_todo (y : Sys) (n : Notice) : (y.send n).todo = y.todo ++ [n] := rfl
@[simp] theorem Sys.sendAll_st (y : Sys) (l : List Notice) : (y.sendAll l).st = y.st := rfl
@[simp] theorem Sys.sendAll_todo (y : Sys) (l : List Notice) : (y.sendAll l).todo = y.todo ++ l := rfl
@[simp] theorem Sys.setIfu_st (y : Sys) (i : Ifu) : (y.setIfu i).st = { y.st with ifu := i } := rfl
@[simp] theorem Sys.setIfu_todo (y : Sys) (i : Ifu) : (y.setIfu i).todo = y.todo := rfl
@[simp] theorem Sys.setCqm_st (y : Sys) (m : Cqm) : (y.setCqm m).st = { y.st with cqm := m } := rfl
@[simp] theorem Sys.setCqm_todo (y : Sys) (m : Cqm) : (y.setCqm m).todo = y.todo := rfl
@[simp] theorem Sys.setMarker_st (y : Sys) (m : Marker) (l : List Announcement) :
    (y.setMarker m l).st = { y.st with marker := m } := rfl
@[simp] theorem Sys.setMarker_todo (y : Sys) (m : Marker) (l : List Announcement) :
    (y.setMarker m l).todo = y.todo ++ l.map .due := rfl
@[simp] theorem Sys.setWatch_st (y : Sys) (w : Watch) :
    (y.setWatch w).st = { y.st with ifu := { y.st.ifu with watch := w } } := rfl
@[simp] theorem Sys.setWatch_todo (y : Sys) (w : Watch) : (y.setWatch w).todo = y.todo := rfl
@[simp] theorem Sys.sendIf_true (y : Sys) (n : Notice) : y.sendIf true n = y.send n := rfl
@[simp] theorem Sys.sendIf_false (y : Sys) (n : Notice) : y.sendIf false n = y := rfl

@[simp] theorem Sys.sendIf_st (y : Sys) (b : Bool) (n : Notice) : (y.sendIf b n).st = y.st := by cases b <;> rfl

@[simp] theorem Sys.postAll_todo (y : Sys) (l : List Report) : (y.postAll l).todo = y.todo := by
  induction l generalizing y with
  | nil => rfl
  | cons r l ih => exact (ih (y.post r))

theorem Sys.postAll_st (y : Sys) (l : List Report) :
    (y.postAll l).st = { y.st with link := l.foldl Link.post y.st.link } := by
  induction l generalizing y with
  | nil => rfl
  | cons r l ih => exact (ih (y.post r))

/-! ### Places of a vector -/

@[simp] theorem put_get_self {α : Type} {n : Nat} (v : Vector α n) (i : Fin n) (x : α) : (put v i x).get i = x := by
  simp [put, Vector.get_eq_getElem]

theorem put_get_of_ne {α : Type} {n : Nat} (v : Vector α n) (i j : Fin n) (x : α) (h : j ≠ i) :
    (put v i x).get j = v.get j := by
  simp only [put, Vector.get_eq_getElem]
  exact Vector.getElem_set_ne _ _ (fun e => h (Fin.ext e.symm))

@[simp] theorem State.putPan_pan_self (s : State) (p : PanId) (r : Pan) : (s.putPan p r).pan p = r := by
  simp [State.pan]

theorem State.putPan_pan_of_ne (s : State) (p q : PanId) (r : Pan) (h : q ≠ p) : (s.putPan p r).pan q = s.pan q := by
  simp [State.pan, put_get_of_ne _ _ _ _ h]

end Sys2Proof.Machine
end

