-- ==== Sys2Proof/Laws/Acts.lean ====
section
/-! SUPPORT. What taking a notice can do, said once: each handler is a run of acts, and a run of acts keeps what every
act keeps. A proof about a cascade looks at the acts and not at the handlers. -/

namespace Sys2Proof.Machine

/-- What a zone keeps through every notice: fitting, location, rating, priority and mode. -/
def Zone.statics (z : Zone) : Bool × ZoneLocation × Nat × Nat × ZoneMode :=
  (z.fitted, z.location, z.rated, z.priority, z.mode)

/-- What ICE keeps through every notice. -/
def Ice.settings (i : Ice) : Int × Nat × Nat × Vector (Bool × ZoneLocation × Nat × Nat × ZoneMode) 12 :=
  (i.icing, i.standby, i.scrapeLength, i.zones.map Zone.statics)

/-- What a pan keeps through every notice but a commit: fitting, strip, rank, in-force profile and force base. -/
def Pan.statics (r : Pan) : Bool × StripClass × Nat × Profile × Nat :=
  (r.fitted, r.strip, r.rank, r.inForce, r.base)

/-- The states that the path leaves by no notice: a request or an event of CHG's own ends them (R92, R107). -/
@[reducible] def PathState.rests : PathState → Bool
  | .isolated | .faulted _ => true
  | .selecting | .awaitLine | .closing | .live | .opening _ | .coasting _ | .changing _ => false

/-- The power of every zone: its rating where it is on. -/
def Ice.powers (i : Ice) : Vector Nat 12 := i.zones.map Zone.power

/-- Which zones are on. -/
def Ice.on (i : Ice) : Vector Bool 12 := i.zones.map fun z => decide (z.state = .on)

/-- One act on the state while notices are taken. -/
inductive State.Act : State → State → Prop where
  | post (s : State) (r : Report) : Act s { s with link := s.link.post r }
  | pan (s : State) (p : PanId) (r : Pan) (hr : r.statics = (s.pan p).statics) : Act s (s.putPan p r)
  | path (s : State) (q : Path) (hq : q.auto = s.path.auto)
      (hs : s.path.state.rests = true → q.state = s.path.state) (ht : q.state = .isolated → q.target = none) :
      Act s { s with path := q }.commandPath
  | channels (s : State) : Act s s.commandPath
  | claims (s : State) (v : Vector Claim 4) : Act s { s with path := { s.path with claims := v } }
  | allocated (s : State) (i : Ice) (z : Vector Zone 12) (hz : i.zones = allocate i.budget z)
      (hs : i.settings = s.ice.settings) : Act s { s with ice := i }.commandHeaters
  | kept (s : State) (i : Ice) (hp : i.powers = s.ice.powers) (ho : i.on = s.ice.on) (hb : i.budget = s.ice.budget)
      (hs : i.settings = s.ice.settings) : Act s { s with ice := i }
  | heaters (s : State) : Act s s.commandHeaters
  | quality (s : State) (v : Vector QualityRecord 4) : Act s { s with cqm := { s.cqm with records := v } }
  | raised (s : State) (k : FaultKind) (j : Subject) :
      Act s { s with ifu := (s.ifu.raise k j s.marker.odometer).ifu }
  | ended (s : State) (k : FaultKind) (j : Subject) (t : FaultStep) (h : s.ifu.endCondition k j = some t) :
      Act s { s with ifu := t.ifu }
  | commit (s : State) (p : PanId) : Act s (s.commit p)
  | safe (s : State) : Act s { s with outputs := { s.outputs with mode := .safe, exitTimer := none } }
  | order (s : State) (n : Nat) : Act s { s with order := n }

/-- A run of acts. -/
inductive State.Reach (s : State) : State → Prop where
  | refl : Reach s s
  | tail {t u : State} : Reach s t → State.Act t u → Reach s u

namespace State.Reach

theorem trans {s t u : State} (h : State.Reach s t) (k : State.Reach t u) : State.Reach s u := by
  induction k with
  | refl => exact h
  | tail _ a ih => exact ih.tail a

/-- A run of acts keeps what every act keeps. -/
theorem keeps {P : State → Prop} (act : ∀ s t, State.Act s t → P s → P t) {s t : State} (h : State.Reach s t)
    (p : P s) : P t := by
  induction h with
  | refl => exact p
  | tail _ a ih => exact act _ _ a ih

/-- A run of acts leaves a value as it was that every act leaves as it was. -/
theorem same {α : Type} (f : State → α) (act : ∀ s t, State.Act s t → f t = f s) {s t : State}
    (h : State.Reach s t) : f t = f s := by
  induction h with
  | refl => rfl
  | tail _ a ih => exact (act _ _ a).trans ih

end State.Reach

section
variable {s : State} {y : Sys}

/-! ### The shared operations -/

theorem Sys.reach_post (r : Report) (h : State.Reach s y.st) : State.Reach s (y.post r).st := h.tail (.post _ r)

theorem Sys.reach_postAll (l : List Report) (h : State.Reach s y.st) : State.Reach s (y.postAll l).st := by
  induction l generalizing y with
  | nil => exact h
  | cons r l ih => exact ih (Sys.reach_post r h)

theorem Sys.reach_send (n : Notice) (h : State.Reach s y.st) : State.Reach s (y.send n).st := h

theorem Sys.reach_sendIf (b : Bool) (n : Notice) (h : State.Reach s y.st) : State.Reach s (y.sendIf b n).st := by
  cases b <;> exact h

theorem Sys.reach_sendAll (l : List Notice) (h : State.Reach s y.st) : State.Reach s (y.sendAll l).st := h

theorem Sys.reach_foldl {α : Type} (f : Sys → α → Sys)
    (step : ∀ (y : Sys) (a : α), State.Reach s y.st → State.Reach s (f y a).st) (l : List α) (h : State.Reach s y.st) :
    State.Reach s (l.foldl f y).st := by
  induction l generalizing y with
  | nil => exact h
  | cons a l ih => exact ih (step y a h)

/-! ### PRF -/

theorem Sys.reach_commit (p : PanId) (h : State.Reach s y.st) : State.Reach s (y.commit p).st := by
  unfold Sys.commit
  dsimp only
  split
  · exact Sys.reach_send _ (Sys.reach_post _ (h.tail (.commit _ p)))
  · exact h

theorem Sys.reach_takePassPoint (p : PanId) (h : State.Reach s y.st) : State.Reach s (y.takePassPoint p).st := by
  unfold Sys.takePassPoint
  split
  · exact Sys.reach_commit p h
  · exact h

theorem Sys.reach_commitAll (h : State.Reach s y.st) : State.Reach s y.commitAll.st :=
  Sys.reach_foldl _ (fun _ p k => Sys.reach_commit p k) _ h

/-! ### PAN -/

theorem Pan.entered_statics (t : PanTimes) (old new : Pan) : (Pan.entered t old new).statics = new.statics := by
  unfold Pan.entered
  split <;> rfl

theorem Sys.reach_putPan (p : PanId) (f : State → Pan) (h : State.Reach s y.st)
    (hr : (f y.st).statics = (y.st.pan p).statics) : State.Reach s (y.edit fun s => s.putPan p (f s)).st :=
  h.tail (.pan _ p _ hr)

theorem Sys.reach_movePan (p : PanId) (new : Pan) (c : PanCause) (w : Option RetryRefusal) (l : List Notice)
    (h : State.Reach s y.st) (hr : new.statics = (y.st.pan p).statics) :
    State.Reach s (y.movePan p new c w l).st := by
  have k := Sys.reach_putPan p (fun _ => Pan.entered y.st.panTimes (y.st.pan p) new) h
    ((Pan.entered_statics _ _ _).trans hr)
  unfold Sys.movePan
  dsimp only
  apply Sys.reach_sendAll
  split
  · exact Sys.reach_post (y := y.edit fun s => s.putPan p _) _ k
  · exact k

theorem Sys.reach_takePathRaise (p : PanId) (h : State.Reach s y.st) : State.Reach s (y.takePathRaise p).st := by
  unfold Sys.takePathRaise
  dsimp only
  repeat' split
  all_goals first | with_reducible exact Sys.reach_send _ h | (with_reducible refine Sys.reach_movePan _ _ _ _ _ h ?_); rfl

theorem Sys.reach_takePathRelease (p : PanId) (h : State.Reach s y.st) :
    State.Reach s (y.takePathRelease p).st := by
  unfold Sys.takePathRelease
  dsimp only
  split
  · exact Sys.reach_movePan _ _ _ _ _ h rfl
  · exact h

theorem Sys.reach_raiseSucceeded (p : PanId) (h : State.Reach s y.st) : State.Reach s (y.raiseSucceeded p).st :=
  Sys.reach_movePan _ _ _ _ _ h rfl

theorem Sys.reach_raiseTimedOut (p : PanId) (h : State.Reach s y.st) : State.Reach s (y.raiseTimedOut p).st := by
  unfold Sys.raiseTimedOut
  dsimp only
  repeat' split
  all_goals exact Sys.reach_movePan _ _ _ _ _ h rfl

theorem Sys.reach_endRetry (p : PanId) (w : Option RetryRefusal) (h : State.Reach s y.st) :
    State.Reach s (y.endRetry p w).st :=
  Sys.reach_movePan _ _ _ _ _ h rfl

theorem Sys.reach_refuseRetry (p : PanId) (w : ClaimReason) (h : State.Reach s y.st) :
    State.Reach s (y.refuseRetry p w).st := Sys.reach_movePan _ _ _ _ _ h rfl

theorem Sys.reach_takeRetryMessage (p : PanId) (m : RetryMessage) (h : State.Reach s y.st) :
    State.Reach s (y.takeRetryMessage p m).st := by
  unfold Sys.takeRetryMessage
  dsimp only
  repeat' split
  all_goals first
    | with_reducible exact h
    | (with_reducible refine Sys.reach_movePan _ _ _ _ _ h ?_); rfl
    | with_reducible exact Sys.reach_endRetry _ _ h
    | with_reducible exact Sys.reach_refuseRetry _ _ h

theorem Sys.reach_takeDip (p : PanId) (h : State.Reach s y.st) : State.Reach s (y.takeDip p).st := by
  unfold Sys.takeDip
  dsimp only
  split
  · exact Sys.reach_movePan _ _ _ _ _ h rfl
  · exact Sys.reach_send _ h

theorem Sys.reach_dipRegained (p : PanId) (h : State.Reach s y.st) : State.Reach s (y.dipRegained p).st :=
  Sys.reach_movePan _ _ _ _ _ h rfl

theorem Sys.reach_lowerPan (p : PanId) (c : PanCause) (h : State.Reach s y.st) :
    State.Reach s (y.lowerPan p c).st := by
  unfold Sys.lowerPan
  dsimp only
  repeat' split
  all_goals first | with_reducible exact h | (with_reducible refine Sys.reach_movePan _ _ _ _ _ h ?_); rfl

theorem Sys.reach_dropPan (p : PanId) (t : TripCause) (c : PanCause) (l : List Notice) (h : State.Reach s y.st) :
    State.Reach s (y.dropPan p t c l).st := Sys.reach_movePan _ _ _ _ _ h rfl

theorem Sys.reach_stripBreach (p : PanId) (h : State.Reach s y.st) : State.Reach s (y.stripBreach p).st :=
  Sys.reach_dropPan _ _ _ _ h

theorem Sys.reach_enterDown (p : PanId) (r : Pan) (c : PanCause) (l : List Notice) (h : State.Reach s y.st)
    (hr : r.statics = (y.st.pan p).statics) : State.Reach s (y.enterDown p r c l).st :=
  Sys.reach_movePan _ _ _ _ _ h hr

theorem Sys.reach_landed (p : PanId) (h : State.Reach s y.st) : State.Reach s (y.landed p).st :=
  Sys.reach_enterDown _ _ _ _ h rfl

theorem Sys.reach_tripped (p : PanId) (h : State.Reach s y.st) : State.Reach s (y.tripped p).st :=
  Sys.reach_movePan _ _ _ _ _ h rfl

theorem Sys.reach_headLost (p : PanId) (h : State.Reach s y.st) : State.Reach s (y.headLost p).st := by
  unfold Sys.headLost
  dsimp only
  split
  · exact Sys.reach_dropPan _ _ _ _ h
  · exact Sys.reach_movePan _ _ _ _ _ h rfl

theorem Sys.reach_panEvent (p : PanId) (i : PanInputs) (b : Bool) (h : State.Reach s y.st) :
    State.Reach s (y.panEvent p i b).st := by
  have k := Sys.reach_putPan (y := y) p (fun _ => { y.st.pan p with inputs := i }) h rfl
  unfold Sys.panEvent
  dsimp only
  repeat' split
  all_goals first
    | with_reducible exact k
    | with_reducible exact Sys.reach_stripBreach _ k
    | with_reducible exact Sys.reach_raiseSucceeded _ k
    | with_reducible exact Sys.reach_headLost _ k
    | with_reducible exact Sys.reach_dipRegained _ k
    | with_reducible exact Sys.reach_landed _ k
    | with_reducible exact Sys.reach_tripped _ k
    | (with_reducible refine Sys.reach_movePan _ _ _ _ _ k ?_)
      rw [show ((y.edit fun s => s.putPan p { y.st.pan p with inputs := i }).st.pan p)
        = { y.st.pan p with inputs := i } from State.putPan_pan_self _ _ _]
      rfl

theorem Sys.reach_takeQualityOffset (p : PanId) (n : Nat) (h : State.Reach s y.st) :
    State.Reach s (y.takeQualityOffset p n).st := by
  unfold Sys.takeQualityOffset
  dsimp only
  split
  · exact Sys.reach_putPan _ _ h rfl
  · exact h

theorem Sys.reach_takeIceOffset (p : PanId) (n : Nat) (h : State.Reach s y.st) :
    State.Reach s (y.takeIceOffset p n).st := by
  unfold Sys.takeIceOffset
  dsimp only
  split
  · exact Sys.reach_putPan _ _ h rfl
  · exact h

theorem Sys.reach_panSafe (p : PanId) (h : State.Reach s y.st) : State.Reach s (y.panSafe p).st := by
  unfold Sys.panSafe
  dsimp only
  exact Sys.reach_movePan _ _ _ _ _ h rfl

theorem Sys.reach_takePanSafe (h : State.Reach s y.st) : State.Reach s y.takePanSafe.st :=
  Sys.reach_foldl _ (fun _ p k => Sys.reach_panSafe p k) _ h

theorem Sys.reach_takePanResume (h : State.Reach s y.st) : State.Reach s y.takePanResume.st := by
  refine Sys.reach_foldl _ (fun y p k => ?_) _ h
  dsimp only
  split
  · exact Sys.reach_panEvent _ _ _ k
  · exact k

/-! ### CHG -/

theorem Sys.reach_movePath (q : Path) (w : PathEvent) (l : List Notice) (h : State.Reach s y.st)
    (hq : q.auto = y.st.path.auto) (hs : y.st.path.state.rests = true → q.state = y.st.path.state) :
    State.Reach s (y.movePath q w l).st := by
  have k := h.tail (.path _ (y.st.enteredPath y.st.path q) hq hs fun e => by
    simp only [State.enteredPath] at e ⊢
    rw [if_pos e])
  unfold Sys.movePath
  dsimp only
  apply Sys.reach_sendAll
  split
  · exact Sys.reach_post (y := y.edit fun s => { s with path := y.st.enteredPath y.st.path q }.commandPath) _ k
  · exact k

/-- A move out of a state that does not rest. -/
theorem PathState.moves {a b : PathState} (h : a.rests = false) : a.rests = true → b = a := fun e => by simp [h] at e

theorem Sys.movePath_state (q : Path) (w : PathEvent) (l : List Notice) : (y.movePath q w l).st.path.state = q.state := by
  unfold Sys.movePath
  dsimp only
  split <;> rfl

theorem Sys.movePath_auto (q : Path) (w : PathEvent) (l : List Notice) : (y.movePath q w l).st.path.auto = q.auto := by
  unfold Sys.movePath
  dsimp only
  split <;> rfl

theorem Sys.reach_toIsolated (k : Claims) (w : PathEvent) (l : List Notice) (h : State.Reach s y.st)
    (hn : y.st.path.state.rests = false) : State.Reach s (y.toIsolated k w l).st :=
  Sys.reach_movePath _ _ _ h rfl (PathState.moves hn)

theorem Sys.reach_toClosing (w : PathEvent) (h : State.Reach s y.st) (hn : y.st.path.state.rests = false) :
    State.Reach s (y.toClosing w).st := by
  have k := Sys.reach_movePath { y.st.path with state := .closing } w [] h rfl (PathState.moves hn)
  unfold Sys.toClosing
  dsimp only
  split
  · exact Sys.reach_movePath _ _ _ k rfl (PathState.moves (by rw [Sys.movePath_state]))
  · exact k

theorem Sys.reach_testClosing (w : PathEvent) (h : State.Reach s y.st) : State.Reach s (y.testClosing w).st := by
  unfold Sys.testClosing
  split
  · next e =>
    refine Sys.reach_toClosing w h ?_
    simp only [Bool.and_eq_true] at e
    revert e
    cases y.st.path.state <;> simp [PathState.testsClosing, PathState.rests]
  · exact h

theorem Sys.reach_testLost (h : State.Reach s y.st) : State.Reach s y.testLost.st := by
  unfold Sys.testLost
  split
  · next e =>
    simp only [Bool.and_eq_true, decide_eq_true_eq] at e
    exact Sys.reach_toIsolated _ _ _ h (by rw [e.1])
  · exact h

theorem Sys.reach_awaitTests (w : PathEvent) (h : State.Reach s y.st) : State.Reach s (y.awaitTests w).st :=
  Sys.reach_testLost (Sys.reach_testClosing w h)

theorem Sys.reach_selectorStep (q : Path) (w : PathEvent) (k : Claims) (h : State.Reach s y.st)
    (hq : q.auto = y.st.path.auto) (hn : y.st.path.state.rests = false) :
    State.Reach s (y.selectorStep q w k).st := by
  unfold Sys.selectorStep
  split
  · exact Sys.reach_awaitTests w (Sys.reach_movePath _ _ _ h hq (PathState.moves hn))
  · exact Sys.reach_movePath _ _ _ h hq (PathState.moves hn)

theorem Sys.commit_path (p : PanId) : (y.commit p).st.path = y.st.path := by
  unfold Sys.commit
  dsimp only
  split <;> rfl

theorem Sys.commitAll_path : y.commitAll.st.path = y.st.path := by
  simp only [Sys.commitAll, List.foldl, Sys.commit_path]

theorem Sys.reach_testAllDown (h : State.Reach s y.st) : State.Reach s y.testAllDown.st := by
  have k := Sys.reach_commitAll h
  unfold Sys.testAllDown
  dsimp only
  repeat' split
  case h_1.isTrue.isTrue n e _ _ =>
    exact Sys.reach_movePath _ _ _ k rfl (PathState.moves (by rw [Sys.commitAll_path, e]))
  case h_1.isTrue.isFalse.isTrue n e _ _ _ =>
    exact Sys.reach_movePath _ _ _ k rfl (PathState.moves (by rw [Sys.commitAll_path, e]))
  case h_1.isTrue.isFalse.isFalse n e _ _ _ =>
    exact Sys.reach_selectorStep _ _ _ k rfl (by rw [Sys.commitAll_path, e])
  all_goals exact h

theorem Sys.reach_toChanging (n : SysId) (w : PathEvent) (h : State.Reach s y.st)
    (hn : y.st.path.state.rests = false) : State.Reach s (y.toChanging n w).st :=
  Sys.reach_testAllDown (Sys.reach_movePath _ _ _ h rfl (PathState.moves hn))

theorem Sys.reach_toCoasting (k : CoastKind) (w : PathEvent) (h : State.Reach s y.st)
    (hn : y.st.path.state.rests = false) : State.Reach s (y.toCoasting k w).st :=
  Sys.reach_testClosing w (Sys.reach_movePath _ _ _ h rfl (PathState.moves hn))

theorem Sys.reach_toZone (q : Path) (w : PathEvent) (h : State.Reach s y.st) (hq : q.auto = y.st.path.auto)
    (hn : y.st.path.state.rests = false) : State.Reach s (y.toZone q w).st :=
  Sys.reach_movePath _ _ _ h hq (PathState.moves hn)

theorem Sys.reach_completeOpen (h : State.Reach s y.st) : State.Reach s y.completeOpen.st := by
  unfold Sys.completeOpen
  dsimp only
  split
  · next e =>
    have hn : y.st.path.state.rests = false := by rw [e]
    repeat' split
    all_goals first
      | with_reducible exact Sys.reach_toIsolated _ _ _ h hn
      | with_reducible exact Sys.reach_toCoasting _ _ h hn
      | with_reducible exact Sys.reach_toChanging _ _ h hn
      | ((with_reducible refine Sys.reach_toZone _ _ h ?_ hn); rfl)
  · exact h

theorem Sys.reach_toOpening (q : Path) (r : OpeningReason) (w : PathEvent) (h : State.Reach s y.st)
    (hq : q.auto = y.st.path.auto) (hn : y.st.path.state.rests = false) :
    State.Reach s (y.toOpening q r w).st := by
  have k := Sys.reach_movePath { q with state := .opening r } w [] h hq (PathState.moves hn)
  unfold Sys.toOpening
  dsimp only
  split
  · exact k
  · exact Sys.reach_completeOpen k

theorem Sys.reach_setClaim (p : PanId) (c : State → Claim) (h : State.Reach s y.st) :
    State.Reach s (y.edit fun s => s.setClaim p (c s)).st := h.tail (.claims _ _)

theorem Sys.reach_takePanMoved (p : PanId) (a b : PanState) (i : Option SysId) (h : State.Reach s y.st) :
    State.Reach s (y.takePanMoved p a b i).st := by
  have k := Sys.reach_setClaim (y := y) p (fun s => (s.path.claims.get p).moved (s.pan p) b) h
  unfold Sys.takePanMoved
  dsimp only
  split
  all_goals
    rename_i e
    have hn := congrArg PathState.rests e
    repeat' split
    all_goals first
      | with_reducible exact k
      | with_reducible exact Sys.reach_awaitTests _ k
      | ((with_reducible refine Sys.reach_toOpening _ _ _ k ?_ hn); rfl)
      | with_reducible exact Sys.reach_toIsolated _ _ _ k hn
      | with_reducible exact Sys.reach_testClosing _ k
      | with_reducible exact Sys.reach_testAllDown (Sys.reach_sendIf _ _ k)

theorem Sys.reach_takeClaimAnswer (p : PanId) (c : Claim) (h : State.Reach s y.st) :
    State.Reach s (y.takeClaimAnswer p c).st := by
  unfold Sys.takeClaimAnswer
  apply Sys.reach_testLost
  split
  · exact Sys.reach_setClaim p (fun _ => c) h
  · exact h

theorem Sys.reach_takeWantGone (p : PanId) (w : Option ClaimReason) (h : State.Reach s y.st) :
    State.Reach s (y.takeWantGone p w).st := by
  unfold Sys.takeWantGone
  apply Sys.reach_testLost
  split
  · exact Sys.reach_setClaim p (fun _ => _) h
  · exact h

theorem Sys.reach_takeRecognized (i : SysId) (h : State.Reach s y.st) : State.Reach s (y.takeRecognized i).st := by
  unfold Sys.takeRecognized
  split
  · next e =>
    split
    · exact Sys.reach_testClosing _ h
    · refine Sys.reach_toIsolated _ _ _ h ?_
      revert e
      cases y.st.path.state <;> simp [PathState.testsClosing, PathState.rests]
  · exact h

theorem Sys.reach_takeLost (i : SysId) (h : State.Reach s y.st) : State.Reach s (y.takeLost i).st := by
  unfold Sys.takeLost
  split
  all_goals
    rename_i e
    repeat' split
    all_goals first
      | with_reducible exact h
      | with_reducible exact Sys.reach_testClosing _ h
      | ((with_reducible refine Sys.reach_toOpening _ _ _ h ?_ (congrArg PathState.rests e)); rfl)

theorem Sys.reach_takeOdometer (h : State.Reach s y.st) : State.Reach s y.takeOdometer.st := by
  unfold Sys.takeOdometer
  dsimp only
  split
  · next e =>
    have hn := congrArg PathState.rests e
    repeat' split
    all_goals first
      | with_reducible exact h
      | with_reducible exact Sys.reach_toClosing _ h hn
      | exact Sys.reach_testClosing _ (Sys.reach_movePath _ _ _ h rfl (PathState.moves hn))
  · exact h

theorem Sys.reach_takeEarthing (h : State.Reach s y.st) : State.Reach s y.takeEarthing.st := by
  unfold Sys.takeEarthing
  dsimp only
  split
  · split
    all_goals
      rename_i e
      have hn := congrArg PathState.rests e
      first
        | with_reducible exact h
        | with_reducible exact Sys.reach_toIsolated _ _ _ h hn
        | ((with_reducible refine Sys.reach_toOpening _ _ _ h ?_ hn); rfl)
        | ((with_reducible refine Sys.reach_movePath _ _ _ h ?_ (PathState.moves hn)); rfl)
  · exact Sys.reach_testClosing _ h

theorem Sys.claimsAhead_st : y.claimsAhead.st = y.st := by
  unfold Sys.claimsAhead
  split <;> rfl

theorem Sys.reach_safePath (h : State.Reach s y.st) : State.Reach s y.safePath.st := by
  unfold Sys.safePath
  dsimp only
  refine State.Reach.tail (t := State.mk _ _ _ _ _ _ _ _ _ _ _ _ _ _ _ _) ?_ (.claims _ noClaims)
  show State.Reach s (match y.st.path.state with
    | .live | .closing => y.toOpening y.st.path .request (.of .safe)
    | .selecting | .awaitLine | .coasting _ | .changing _ => y.toIsolated y.st.withdraw (.of .safe) []
    | .opening _ | .isolated | .faulted _ => y : Sys).st
  split
  all_goals
    rename_i e
    first
      | with_reducible exact h
      | with_reducible exact Sys.reach_toIsolated _ _ _ h (congrArg PathState.rests e)
      | ((with_reducible refine Sys.reach_toOpening _ _ _ h ?_ (congrArg PathState.rests e)); rfl)

theorem Sys.takePathSafe_st : y.takePathSafe.st = y.safePath.st := by
  unfold Sys.takePathSafe
  dsimp only
  split
  · exact Sys.claimsAhead_st
  · rfl

theorem Sys.reach_takePathSafe (h : State.Reach s y.st) : State.Reach s y.takePathSafe.st :=
  Sys.takePathSafe_st ▸ Sys.reach_safePath h

theorem Sys.reach_takePathResume (h : State.Reach s y.st) : State.Reach s y.takePathResume.st :=
  Sys.reach_sendIf _ _ (h.tail (.channels _))

theorem Sys.reach_otherAhead (i : SysId) (w : PathEvent) (h : State.Reach s y.st) :
    State.Reach s (y.otherAhead i w).st := by
  unfold Sys.otherAhead
  dsimp only
  split
  all_goals
    rename_i e
    have hn := congrArg PathState.rests e
    repeat' split
    all_goals first
      | with_reducible exact h
      | with_reducible exact Sys.reach_toChanging _ _ h hn
      | ((with_reducible refine Sys.reach_movePath _ _ _ h ?_ (PathState.moves hn)); rfl)
      | ((with_reducible refine Sys.reach_toOpening _ _ _ h ?_ hn); rfl)

theorem Sys.reach_systemAhead (i : SysId) (w : PathEvent) (h : State.Reach s y.st) :
    State.Reach s (y.systemAhead i w).st := by
  unfold Sys.systemAhead
  dsimp only
  split
  · exact Sys.reach_movePath _ _ _ h rfl fun _ => rfl
  · exact Sys.reach_movePath _ _ _ h rfl fun _ => rfl
  · next e => exact Sys.reach_movePath _ _ _ h rfl (PathState.moves (congrArg PathState.rests e))
  · split
    · exact h
    · exact Sys.reach_otherAhead _ _ h

theorem Sys.reach_neutralAhead (a b : Nat) (w : PathEvent) (h : State.Reach s y.st) :
    State.Reach s (y.neutralAhead a b w).st := by
  unfold Sys.neutralAhead
  dsimp only
  split
  · next e => exact Sys.reach_toOpening _ _ _ h rfl (congrArg PathState.rests e)
  · next e =>
    split
    · exact Sys.reach_toOpening _ _ _ h rfl (congrArg PathState.rests e)
    · exact Sys.reach_toOpening _ _ _ h rfl (congrArg PathState.rests e)
  · exact h

theorem Sys.reach_zoneStart (w : PathEvent) (h : State.Reach s y.st) : State.Reach s (y.zoneStart w).st := by
  unfold Sys.zoneStart
  dsimp only
  split
  all_goals
    rename_i e
    have hn := congrArg PathState.rests e
    first
      | ((with_reducible refine Sys.reach_toOpening _ _ _ h ?_ hn); rfl)
      | ((with_reducible refine Sys.reach_toZone _ _ h ?_ hn); rfl)
      | exact Sys.reach_movePath _ _ _ h rfl (PathState.moves hn)
      | exact Sys.reach_movePath _ _ _ h rfl fun _ => rfl

theorem Sys.reach_zoneEnd (w : PathEvent) (h : State.Reach s y.st) : State.Reach s (y.zoneEnd w).st := by
  unfold Sys.zoneEnd
  dsimp only
  split
  · next e _ => exact Sys.reach_selectorStep _ _ _ h rfl (congrArg PathState.rests e)
  · exact Sys.reach_movePath _ _ _ h rfl fun _ => rfl

theorem Sys.reach_takePathDue (a : Announcement) (h : State.Reach s y.st) :
    State.Reach s (y.takePathDue a).st := by
  unfold Sys.takePathDue
  dsimp only
  split
  · exact Sys.reach_systemAhead _ _ h
  · exact Sys.reach_neutralAhead _ _ _ h
  · exact Sys.reach_zoneStart _ h
  · exact Sys.reach_zoneEnd _ h
  · exact h
  · exact h

/-! ### ICE -/

/-- What an event at ICE may have done to the zones: nothing to those that are on, or an allocation. -/
def Work.Fits (w : Work) (i : Ice) : Prop :=
  w.ice.settings = i.settings
    ∧ ((∃ z, w.ice.zones = allocate w.ice.budget z)
      ∨ (w.ice.powers = i.powers ∧ w.ice.on = i.on ∧ w.ice.budget = i.budget))

theorem Work.fits_of (i : Ice) : (Work.of i).Fits i := ⟨rfl, .inr ⟨rfl, rfl, rfl⟩⟩

theorem Work.fits_setLevel {w : Work} {i : Ice} (p : PanId) (l : IceLevel) (c : LevelCause) (h : w.Fits i) :
    (w.setLevel p l c).Fits i := by
  unfold Work.setLevel
  dsimp only
  split <;> exact h

theorem Work.setLevel_settings (w : Work) (p : PanId) (l : IceLevel) (c : LevelCause) :
    (w.setLevel p l c).ice.settings = w.ice.settings := by
  unfold Work.setLevel
  dsimp only
  split <;> rfl

theorem map_put_of_eq {α β : Type} {n : Nat} (f : α → β) (v : Vector α n) (i : Fin n) (x : α)
    (h : f x = f (v.get i)) : (put v i x).map f = v.map f := by
  apply Vector.ext
  intro j hj
  simp only [put, Vector.getElem_map, Vector.getElem_set]
  split
  · next e => subst e; exact h
  · rfl

/-- The allocation of one zone changes no more than its state. -/
theorem allocateZone_statics (z : Nat × Vector Zone 12) (i : ZoneId) :
    (allocateZone z i).2.map Zone.statics = z.2.map Zone.statics := by
  unfold allocateZone
  dsimp only
  repeat' split
  all_goals first | rfl | exact map_put_of_eq _ _ _ _ rfl

/-- The allocation changes no more than the states of the zones. -/
theorem allocate_statics (budget : Nat) (zones : Vector Zone 12) :
    (allocate budget zones).map Zone.statics = zones.map Zone.statics := by
  unfold allocate
  suffices h : ∀ (l : List ZoneId) (z : Nat × Vector Zone 12),
      (l.foldl allocateZone z).2.map Zone.statics = z.2.map Zone.statics from h _ _
  intro l
  induction l with
  | nil => intro z; rfl
  | cons i l ih => intro z; exact (ih _).trans (allocateZone_statics z i)

theorem Work.step_ice (w : Work) (rule : Program → Program × Option ProgramEnd × List Notice) :
    (w.step rule).ice = w.ice := rfl

theorem State.evaluate_settings (s : State) (w : Work) : (s.evaluate w).ice.settings = w.ice.settings := by
  have h : ((allocate s.heaterBudget (w.ice.zones.map fun z => { z with demand := s.demandOf w z })).map
      Zone.statics) = w.ice.zones.map Zone.statics := by
    rw [allocate_statics]
    apply Vector.ext
    intro i hi
    simp [Zone.statics]
  unfold State.evaluate Ice.settings
  simp only [Work.step_ice, h]

theorem State.fits_evaluate (s : State) {w : Work} {i : Ice} (h : w.ice.settings = i.settings) :
    (s.evaluate w).Fits i := ⟨(s.evaluate_settings w).trans h, .inl ⟨_, rfl⟩⟩

theorem State.zonesRead_statics (s : State) (f : Zone → Check) :
    (s.zonesRead f).map Zone.statics = s.ice.zones.map Zone.statics := by
  apply Vector.ext
  intro i hi
  simp only [State.zonesRead, Zone.statics, Vector.getElem_map, Vector.getElem_ofFn, Vector.get_eq_getElem]

theorem State.iceRead_settings (s : State) : s.iceRead.settings = s.ice.settings :=
  by unfold State.iceRead Ice.settings; simp only [State.zonesRead_statics]

theorem Sys.reach_publish {w : Work} (f : ZoneId → ZoneCause) (k : w.Fits y.st.ice) (h : State.Reach s y.st) :
    State.Reach s (y.publish w f).st := by
  refine Sys.reach_sendAll _ (Sys.reach_postAll _ ?_)
  obtain ⟨hs, ⟨z, hz⟩ | ⟨hp, ho, hb⟩⟩ := k
  · exact h.tail (.allocated y.st { w.ice with programs := w.programs } z hz hs)
  · exact (h.tail (.kept y.st { w.ice with programs := w.programs } hp ho hb hs)).tail (.heaters _)

theorem Sys.reach_evaluateAgain (n : Nat) (w : Work) (h : State.Reach s y.st) :
    State.Reach s (Sys.evaluateAgain n y w).st := by
  induction n generalizing y w with
  | zero => exact h
  | succ n ih =>
    unfold Sys.evaluateAgain
    split
    · exact ih _ (Sys.reach_publish _ (State.fits_evaluate _ rfl) h)
    · exact h

theorem Sys.reach_publishAll {w : Work} (f : ZoneId → ZoneCause) (k : w.Fits y.st.ice) (h : State.Reach s y.st) :
    State.Reach s (y.publishAll w f).st := Sys.reach_evaluateAgain _ _ (Sys.reach_publish f k h)

theorem Sys.reach_evaluate {w : Work} (k : w.ice.settings = y.st.ice.settings) (h : State.Reach s y.st) :
    State.Reach s (y.evaluate w).st := Sys.reach_publishAll _ (State.fits_evaluate _ k) h

theorem Sys.reach_evaluateIf {w : Work} (b : Bool) (k : w.Fits y.st.ice) (h : State.Reach s y.st) :
    State.Reach s (y.evaluateIf b w).st := by
  unfold Sys.evaluateIf
  split
  · exact Sys.reach_evaluate k.1 h
  · exact Sys.reach_publish _ k h

theorem Sys.reach_finish {w : Work} (k : w.Fits y.st.ice) (h : State.Reach s y.st) :
    State.Reach s (y.finish w).st := Sys.reach_evaluateIf _ k h

theorem Sys.reach_finishLevel {w : Work} (k : w.Fits y.st.ice) (h : State.Reach s y.st) :
    State.Reach s (y.finishLevel w).st := Sys.reach_evaluateIf _ k h

theorem Sys.reach_takeDipRefused (p : PanId) (h : State.Reach s y.st) : State.Reach s (y.takeDipRefused p).st :=
  Sys.reach_finish (Work.fits_of y.st.ice) h

theorem Sys.reach_takeDipDone (p : PanId) (h : State.Reach s y.st) : State.Reach s (y.takeDipDone p).st :=
  Sys.reach_finish (Work.fits_of y.st.ice) h

theorem Sys.reach_takeDipFailed (p : PanId) (h : State.Reach s y.st) : State.Reach s (y.takeDipFailed p).st :=
  Sys.reach_finish (Work.fits_of y.st.ice) h

theorem Sys.reach_takeDipLeft (p : PanId) (h : State.Reach s y.st) : State.Reach s (y.takeDipLeft p).st :=
  Sys.reach_finish (Work.fits_of y.st.ice) h

theorem Sys.reach_takePanEnteredUp (h : State.Reach s y.st) : State.Reach s y.takePanEnteredUp.st :=
  Sys.reach_finish (Work.fits_of y.st.ice) h

theorem Sys.reach_takePanLeft (p : PanId) (h : State.Reach s y.st) : State.Reach s (y.takePanLeft p).st :=
  Sys.reach_finish (Work.fits_of y.st.ice) h

theorem Sys.reach_takeMetres (n : Nat) (h : State.Reach s y.st) : State.Reach s (y.takeMetres n).st :=
  Sys.reach_finish (Work.fits_of y.st.ice) h

theorem Sys.reach_takeIceDue (a : Announcement) (h : State.Reach s y.st) : State.Reach s (y.takeIceDue a).st := by
  unfold Sys.takeIceDue
  split
  · exact h.tail (.kept _ _ rfl rfl rfl rfl)
  · exact Sys.reach_finish (Work.fits_of y.st.ice) h
  all_goals exact h

theorem Sys.reach_takeRaiseOk (p : PanId) (t n : Nat) (h : State.Reach s y.st) :
    State.Reach s (y.takeRaiseOk p t n).st := by
  unfold Sys.takeRaiseOk
  dsimp only
  repeat' split
  all_goals first | exact Sys.reach_finishLevel (Work.fits_setLevel _ _ _ (Work.fits_of _)) h | exact h

theorem Sys.reach_takeRaiseTimedOut (p : PanId) (n : Nat) (h : State.Reach s y.st) :
    State.Reach s (y.takeRaiseTimedOut p n).st := by
  have k := Work.fits_setLevel p ((y.st.ice.levels.get p).timedOut n) .timeout (Work.fits_of y.st.ice)
  unfold Sys.takeRaiseTimedOut
  dsimp only
  repeat' split
  · exact Sys.reach_finishLevel k h
  · exact Sys.reach_finishLevel k h
  · exact Sys.reach_evaluate k.1 h

theorem Sys.reach_takeDisturbed (p : PanId) (h : State.Reach s y.st) : State.Reach s (y.takeDisturbed p).st := by
  unfold Sys.takeDisturbed
  split
  · exact Sys.reach_finishLevel (Work.fits_setLevel _ _ _ (Work.fits_of _)) h
  · exact h

theorem Sys.reach_takeRetryWithdrawn (p : PanId) (h : State.Reach s y.st) :
    State.Reach s (y.takeRetryWithdrawn p).st := Sys.reach_finish (Work.fits_of y.st.ice) h

theorem Sys.reach_heatComplete (p : PanId) (h : State.Reach s y.st) : State.Reach s (y.heatComplete p).st := by
  unfold Sys.heatComplete
  split
  · exact Sys.reach_evaluate (Work.setLevel_settings _ _ _ _) h
  · exact h

theorem Sys.reach_dipWaitExpiry (p : PanId) (h : State.Reach s y.st) : State.Reach s (y.dipWaitExpiry p).st := by
  unfold Sys.dipWaitExpiry
  split
  · exact Sys.reach_finish (Work.fits_of y.st.ice) h
  · exact h

/-- When a step begins, ICE has been told the path and the mode as they stand (R114). -/
@[simp] theorem Sys.seen_begin (s : State) (l : List Notice) : ({ st := s, todo := l } : Sys).seen = s := rfl

@[simp] theorem Sys.seen_tellIce (y : Sys) : y.tellIce.seen = y.st := rfl

@[simp] theorem Sys.st_tellIce (y : Sys) : y.tellIce.st = y.st := rfl

theorem Sys.reach_takeIcePath (q : Path) (h : State.Reach s y.st) : State.Reach s (y.takeIcePath q).st :=
  Sys.reach_evaluateIf (y := { y with told := _ }) _ (Work.fits_of y.st.ice) h

theorem Sys.reach_takeIceMode (m : OutputMode) (h : State.Reach s y.st) : State.Reach s (y.takeIceMode m).st :=
  Sys.reach_evaluateIf (y := { y with told := _ }) _ (Work.fits_of y.st.ice) h

theorem Sys.reach_takeProfileWritten (h : State.Reach s y.st) : State.Reach s y.takeProfileWritten.st :=
  Sys.reach_evaluate rfl h

theorem Sys.reach_setAmbient (n : Int) (b : Bool) (h : State.Reach s y.st) :
    State.Reach s (y.setAmbient n b).st := Sys.reach_evaluateIf _ ⟨rfl, .inr ⟨rfl, rfl, rfl⟩⟩ h

theorem Sys.reach_takeIceResume (h : State.Reach s y.st) : State.Reach s y.takeIceResume.st :=
  Sys.reach_evaluate (y := y.tellIce) y.st.iceRead_settings h

theorem Sys.reach_takeIceStart (h : State.Reach s y.st) : State.Reach s y.takeIceStart.st :=
  Sys.reach_publishAll (y := y.tellIce) _ (State.fits_evaluate _ y.st.iceRead_settings) h

/-! ### CQM, MKR, IFU, AOS -/

theorem Sys.reach_putQuality (p : PanId) (r : QualityRecord) (h : State.Reach s y.st) :
    State.Reach s (y.edit fun s => s.putQuality p r).st := h.tail (.quality _ _)

theorem Sys.reach_takeMeasuring (p : PanId) (h : State.Reach s y.st) : State.Reach s (y.takeMeasuring p).st := by
  unfold Sys.takeMeasuring
  dsimp only
  split
  · exact Sys.reach_putQuality _ _ h
  · exact Sys.reach_sendIf _ _ (Sys.reach_putQuality _ _ h)
  · exact h

theorem Sys.reach_takeMeasuringAll (h : State.Reach s y.st) : State.Reach s y.takeMeasuringAll.st :=
  Sys.reach_foldl _ (fun _ p k => Sys.reach_takeMeasuring p k) _ h

theorem Sys.reach_takeScrape (p : PanId) (b : Bool) (h : State.Reach s y.st) :
    State.Reach s (y.takeScrape p b).st := h.tail (.quality _ _)

theorem Sys.reach_takeDue (a : Announcement) (h : State.Reach s y.st) : State.Reach s (y.takeDue a).st :=
  Sys.reach_send _ (Sys.reach_post _ h)

theorem Sys.reach_takeRaised (k : FaultKind) (j : Subject) (h : State.Reach s y.st) :
    State.Reach s (y.takeRaised k j).st :=
  Sys.reach_sendIf _ _ (Sys.reach_post (y := y.setIfu _) _ (h.tail (.raised _ k j)))

theorem Sys.reach_takeEnded (k : FaultKind) (j : Subject) (h : State.Reach s y.st) :
    State.Reach s (y.takeEnded k j).st := by
  unfold Sys.takeEnded
  split
  · next t e => exact Sys.reach_post (y := y.setIfu _) _ (h.tail (.ended _ k j t e))
  · exact h

theorem Sys.reach_takeIfuStart (h : State.Reach s y.st) : State.Reach s y.takeIfuStart.st :=
  Sys.reach_foldl _ (fun _ c k => Sys.reach_takeEnded c.1 c.2 k) _ h

theorem Sys.reach_setSafe (c : ModeCause) (h : State.Reach s y.st) :
    State.Reach s (y.setMode .safe none c).st := Sys.reach_post (y := y.edit _) _ (h.tail (.safe _))

theorem Sys.reach_enterSafe (c : ModeCause) (h : State.Reach s y.st) : State.Reach s (y.enterSafe c).st := by
  unfold Sys.enterSafe
  split
  · exact h
  all_goals exact Sys.reach_sendAll _ (Sys.reach_setSafe _ h)

/-! ### Every notice, and all of them -/

theorem Sys.reach_take (n : Notice) (h : State.Reach s y.st) : State.Reach s (y.take n).st := by
  cases n
  case pathRaise => exact Sys.reach_takePathRaise _ h
  case pathRelease => exact Sys.reach_takePathRelease _ h
  case pathLower => exact Sys.reach_lowerPan _ _ h
  case retryMessage => exact Sys.reach_takeRetryMessage _ _ h
  case dip => exact Sys.reach_takeDip _ h
  case qualityOffset => exact Sys.reach_takeQualityOffset _ _ h
  case iceOffset => exact Sys.reach_takeIceOffset _ _ h
  case panSafe => exact Sys.reach_takePanSafe h
  case panSafeBehind => exact Sys.reach_takePanSafe h
  case panResume => exact Sys.reach_takePanResume h
  case panMoved => exact Sys.reach_takePanMoved _ _ _ _ h
  case claimAnswer => exact Sys.reach_takeClaimAnswer _ _ h
  case wantGone => exact Sys.reach_takeWantGone _ _ h
  case pathDue => exact Sys.reach_takePathDue _ h
  case recognized => exact Sys.reach_takeRecognized _ h
  case lost => exact Sys.reach_takeLost _ h
  case lineDead => exact Sys.reach_testClosing _ h
  case odometerMoved => exact Sys.reach_takeOdometer h
  case earthingMoved => exact Sys.reach_takeEarthing h
  case pathSafe => exact Sys.reach_takePathSafe h
  case pathResume => exact Sys.reach_takePathResume h
  case raiseOk => exact Sys.reach_takeRaiseOk _ _ _ h
  case raiseTimedOut => exact Sys.reach_takeRaiseTimedOut _ _ h
  case dipRefused => exact Sys.reach_takeDipRefused _ h
  case dipDone => exact Sys.reach_takeDipDone _ h
  case dipFailed => exact Sys.reach_takeDipFailed _ h
  case dipLeft => exact Sys.reach_takeDipLeft _ h
  case retryWithdrawn => exact Sys.reach_takeRetryWithdrawn _ h
  case panEnteredUp => exact Sys.reach_takePanEnteredUp h
  case panLeft => exact Sys.reach_takePanLeft _ h
  case pathMoved => exact Sys.reach_takeIcePath _ h
  case disturbed => exact Sys.reach_takeDisturbed _ h
  case iceDue => exact Sys.reach_takeIceDue _ h
  case profileWritten => exact Sys.reach_takeProfileWritten h
  case modeMoved => exact Sys.reach_takeIceMode _ h
  case iceResume => exact Sys.reach_takeIceResume h
  case metres => exact Sys.reach_takeMetres _ h
  case iceStart => exact Sys.reach_takeIceStart h
  case cqmPan => exact Sys.reach_takeMeasuring _ h
  case cqmPath => exact Sys.reach_takeMeasuringAll h
  case scrapeMoved => exact Sys.reach_takeScrape _ _ h
  case cqmResume => exact Sys.reach_takeMeasuringAll h
  case passPoint => exact Sys.reach_takePassPoint _ h
  case raised => exact Sys.reach_takeRaised _ _ h
  case ended => exact Sys.reach_takeEnded _ _ h
  case ifuStart => exact Sys.reach_takeIfuStart h
  case safeOrder => exact Sys.reach_enterSafe _ h
  case due => exact Sys.reach_takeDue _ h

theorem Sys.reach_settleWithin (k : Nat) (h : State.Reach s y.st) : State.Reach s (y.settleWithin k) := by
  induction k generalizing y with
  | zero => exact h
  | succ k ih =>
    unfold Sys.settleWithin
    split
    · exact h
    · dsimp only
      apply ih
      split
      · exact h.tail (.order _ _)
      · exact Sys.reach_take _ (h.tail (.order _ _))

theorem State.recheck_act (s : State) : State.Reach s s.recheck := by
  unfold State.recheck
  split
  · refine State.Reach.refl.tail (.kept s _ ?_ ?_ rfl
      (congrArg (fun v => (s.ice.icing, s.ice.standby, s.ice.scrapeLength, v)) ?_))
    · apply Vector.ext
      intro i hi
      simp [Ice.powers, Zone.power, Vector.get_eq_getElem]
    · apply Vector.ext
      intro i hi
      simp [Ice.on, Vector.get_eq_getElem]
    · apply Vector.ext
      intro i hi
      simp [Zone.statics, Vector.get_eq_getElem]
  · exact .refl

/-- The notices of a step and its checks are a run of acts. -/
theorem Sys.reach_settle (h : State.Reach s y.st) : State.Reach s y.settle :=
  (Sys.reach_settleWithin _ h).trans (State.recheck_act _)

end

/-- A step whose event is a run of acts is one. -/
theorem State.reach_run (s : State) (event : Sys → Sys)
    (h : ∀ y : Sys, State.Reach s y.st → State.Reach s (event y).st) : State.Reach s (s.run event) :=
  Sys.reach_settle (h _ .refl)

end Sys2Proof.Machine
end

