-- ==== Sys2Proof/Laws/Frames.lean ====
section
/-! SUPPORT. What a cascade leaves as it was, from its acts; the outcomes of a request; the end of a step that has
sent no notice; what the statements' words for the path, the DEAD threshold and a START_REPORT say in the model's. -/

namespace Sys2Proof.Machine

/-! ### What notices do not change -/

theorem State.putPan_fits (s : State) (p : PanId) (r : Pan) (h : r.fitted = (s.pan p).fitted)
    (k : r.strip = (s.pan p).strip) (l : r.rank = (s.pan p).rank) :
    (s.putPan p r).pans.map (fun r => (r.fitted, r.strip, r.rank)) = s.pans.map fun r => (r.fitted, r.strip, r.rank) :=
  map_put_of_eq _ _ _ _ (by rw [h, k, l]; rfl)

theorem State.Act.still {s t : State} (h : State.Act s t) : t.still = s.still := by
  cases h with
  | pan p r hr =>
    simp only [Pan.statics, Prod.mk.injEq] at hr
    have k := State.putPan_fits s p r hr.1 hr.2.1 hr.2.2.1
    show (({ s.still with fits := (s.putPan p r).pans.map fun r => (r.fitted, r.strip, r.rank) }) : Still) = s.still
    rw [k]
    rfl
  | path q hq _ _ =>
    show (({ s.still with auto := q.auto }) : Still) = s.still
    rw [hq]
    rfl
  | commit p =>
    have k := State.putPan_fits { s with store := s.store.setStatus p .success } p
      { s.pan p with inForce := s.store.active.get p
                     base := State.forceBase { s with store := s.store.setStatus p .success } (s.store.active.get p) }
      rfl rfl rfl
    show (({ s.still with fits := (s.commit p).pans.map fun r => (r.fitted, r.strip, r.rank) }) : Still) = s.still
    exact congrArg (fun v => ({ s.still with fits := v } : Still)) k
  | allocated i z hz hs =>
    simp only [Ice.settings, Prod.mk.injEq] at hs
    simp only [State.still, State.commandHeaters, hs.1, hs.2.1, hs.2.2.1]
  | kept i hp ho hb hs =>
    simp only [Ice.settings, Prod.mk.injEq] at hs
    simp only [State.still, hs.1, hs.2.1, hs.2.2.1]
  | raised k j =>
    have : ∀ (i : Ifu) (rest : List FaultEntry) (e : FaultEntry) (r : Option (FaultKind × Subject)),
        (i.place rest e r).ifu.earthed = i.earthed ∧ (i.place rest e r).ifu.airLow = i.airLow := by
      intro i rest e r
      unfold Ifu.place
      split <;> exact ⟨rfl, rfl⟩
    have h : (s.ifu.raise k j s.marker.odometer).ifu.earthed = s.ifu.earthed
        ∧ (s.ifu.raise k j s.marker.odometer).ifu.airLow = s.ifu.airLow := by
      unfold Ifu.raise
      dsimp only
      repeat' split
      all_goals first | exact this _ _ _ _ | exact ⟨rfl, rfl⟩
    simp only [State.still, h.1, h.2]
  | ended k j t h =>
    have h : t.ifu.earthed = s.ifu.earthed ∧ t.ifu.airLow = s.ifu.airLow := by
      unfold Ifu.endCondition at h
      repeat' split at h
      all_goals first
        | (cases h; exact ⟨rfl, rfl⟩)
        | exact absurd h (by simp)
    simp only [State.still, h.1, h.2]
  | _ => rfl

theorem State.Reach.still {s t : State} (h : State.Reach s t) : t.still = s.still :=
  h.same State.still fun _ _ a => a.still

theorem State.Act.link {s t : State} (h : State.Act s t) : t.link = s.link ∨ ∃ r, t.link = s.link.post r := by
  cases h with
  | post r => exact .inr ⟨r, rfl⟩
  | _ => exact .inl rfl

/-- A cascade does no more to the link than post reports. -/
theorem State.Reach.link {s t : State} (h : State.Reach s t) : ∃ rs, t.link = s.link.posts rs := by
  induction h with
  | refl => exact ⟨[], rfl⟩
  | tail _ a ih =>
    obtain ⟨rs, e⟩ := ih
    rcases a.link with k | ⟨r, k⟩
    · exact ⟨rs, k.trans e⟩
    · refine ⟨rs ++ [r], ?_⟩
      rw [k, e, Link.posts, Link.posts, List.foldl_append]
      rfl

/-- The statics of the zones are kept: fitting, location, rating, priority and mode. -/
theorem State.Reach.zones {s t : State} (h : State.Reach s t) :
    t.ice.zones.map Zone.statics = s.ice.zones.map Zone.statics := by
  refine h.same (fun s => s.ice.zones.map Zone.statics) fun s t a => ?_
  cases a with
  | allocated i z hz hs => exact congrArg (fun v => v.2.2.2) hs
  | kept i hp ho hb hs => exact congrArg (fun v => v.2.2.2) hs
  | _ => rfl

/-! ### CHG's channels -/

/-- Every act keeps BT as R86 has it with the breaker feedback. -/
theorem State.Act.tripFollows {s t : State} (h : State.Act s t) (k : s.tripFollows) : t.tripFollows := by
  cases h with
  | path | channels => rfl
  | _ => exact k

theorem State.Reach.tripFollows {s t : State} (h : State.Reach s t) (k : s.tripFollows) : t.tripFollows :=
  h.keeps (fun _ _ a => a.tripFollows) k

/-- Every act keeps CHG's channels as R86 has them whatever the breaker feedback reads. -/
theorem State.Act.pathCommands {s t : State} (h : State.Act s t)
    (k : s.outputs.commanded.bc = s.path.state.bcCommand
      ∧ (s.path.state.btCommand true = s.path.state.btCommand false →
          s.outputs.commanded.bt = s.path.state.btCommand true)
      ∧ s.outputs.commanded.sd = s.path.state.sdCommand (s.targetPosition s.path.target)) :
    t.outputs.commanded.bc = t.path.state.bcCommand
      ∧ (t.path.state.btCommand true = t.path.state.btCommand false →
          t.outputs.commanded.bt = t.path.state.btCommand true)
      ∧ t.outputs.commanded.sd = t.path.state.sdCommand (t.targetPosition t.path.target) := by
  cases h with
  | path q | channels =>
    refine ⟨rfl, fun e => ?_, rfl⟩
    simp only [State.commandPath_outputs, State.commandPath_path] at e ⊢
    cases s.lines.breakerClosed <;> simp [e]
  | _ => exact k

/-! ### Posting -/

theorem Link.begin_still (l : Link) : l.begin.framer = l.framer ∧ l.begin.watch = l.watch
    ∧ l.begin.checkErrors = l.checkErrors ∧ l.begin.abandoned = l.abandoned ∧ l.begin.overruns = l.overruns
    ∧ l.begin.breaks = l.breaks ∧ l.begin.holding = l.holding := by
  unfold Link.begin
  repeat' split
  all_goals try exact ⟨rfl, rfl, rfl, rfl, rfl, rfl, rfl⟩
  unfold Link.start
  split <;> exact ⟨rfl, rfl, rfl, rfl, rfl, rfl, rfl⟩

/-- Posting a report touches no counter of the receiver, nor the framer, the watch and the hold. -/
theorem Link.post_still (l : Link) (r : Report) : (l.post r).framer = l.framer ∧ (l.post r).watch = l.watch
    ∧ (l.post r).checkErrors = l.checkErrors ∧ (l.post r).abandoned = l.abandoned ∧ (l.post r).overruns = l.overruns
    ∧ (l.post r).breaks = l.breaks ∧ (l.post r).holding = l.holding := by
  unfold Link.post
  repeat' split
  · exact Link.begin_still _
  · exact Link.begin_still _
  · exact ⟨rfl, rfl, rfl, rfl, rfl, rfl, rfl⟩

theorem Link.posts_still (l : Link) (rs : List Report) : (l.posts rs).framer = l.framer ∧ (l.posts rs).watch = l.watch
    ∧ (l.posts rs).checkErrors = l.checkErrors ∧ (l.posts rs).abandoned = l.abandoned
    ∧ (l.posts rs).overruns = l.overruns ∧ (l.posts rs).breaks = l.breaks ∧ (l.posts rs).holding = l.holding := by
  induction rs generalizing l with
  | nil => exact ⟨rfl, rfl, rfl, rfl, rfl, rfl, rfl⟩
  | cons r rs ih =>
    have h := l.post_still r
    have k := ih (l.post r)
    exact ⟨k.1.trans h.1, k.2.1.trans h.2.1, k.2.2.1.trans h.2.2.1, k.2.2.2.1.trans h.2.2.2.1,
      k.2.2.2.2.1.trans h.2.2.2.2.1, k.2.2.2.2.2.1.trans h.2.2.2.2.2.1, k.2.2.2.2.2.2.trans h.2.2.2.2.2.2⟩

/-! ### The end of a step -/

/-- An event that has sent nothing ends with the checks alone. -/
theorem Sys.settle_quiet (y : Sys) (h : y.todo = []) : y.settle = y.st.recheck := by
  unfold Sys.settle
  have : y.settleWithin 600 = y.st := by
    unfold Sys.settleWithin
    rw [h]
    rfl
  rw [this]

/-- The notice that is taken next is one of those that may be taken. -/
theorem choose_mem {order : Nat} {todo : List Notice} {n : Notice} {k : Nat} (h : choose order todo = some (n, k)) :
    n ∈ ready [] todo := by
  unfold choose at h
  split at h
  · exact absurd h (by simp)
  · next e =>
    rw [e]
    simp at h
    simp [h.1]
  · next m l _ e =>
    rw [e]
    simp only [Option.some.injEq, Prod.mk.injEq] at h
    have lt : order % (l.length + 1) < (m :: l).length := Nat.mod_lt _ (Nat.succ_pos _)
    rw [← h.1, List.getD_eq_getElem _ _ lt]
    exact List.getElem_mem _

theorem ready_nil {seen : List Nat} {todo : List Notice} (h : ready seen todo = []) :
    ∀ n ∈ todo, n.lane ∈ seen := by
  induction todo generalizing seen with
  | nil => simp
  | cons m l ih =>
    unfold ready at h
    split at h
    · next k =>
      intro n hn
      rcases List.mem_cons.mp hn with e | hn
      · rw [e]
        simpa using k
      · exact ih h n hn
    · exact absurd h (by simp)

/-- A notice taken from the step's notices, or discarded. -/
def Sys.takeNext (y : Sys) (n : Notice) (order : Nat) : Sys :=
  let z := { y with st := { y.st with order := order }, todo := withoutLane n.lane y.todo }
  if z.st.discards n then z else z.take n

/-- What every notice of a step keeps stands at its end, where the notices run out: `size` bounds how many there are
still to be. -/
theorem Sys.settle_ends (Inv : Sys → Prop) (size : Sys → Nat)
    (step : ∀ (y : Sys) (n : Notice) (order : Nat), Inv y → n ∈ ready [] y.todo →
      Inv (y.takeNext n order) ∧ size (y.takeNext n order) < size y)
    (y : Sys) (h : Inv y) (k : size y < noticeLimit) :
    ∃ z : Sys, Inv z ∧ z.todo = [] ∧ y.settle = z.st.recheck := by
  suffices ∀ (m : Nat) (y : Sys), Inv y → size y < m →
      ∃ z : Sys, Inv z ∧ z.todo = [] ∧ y.settleWithin m = z.st by
    obtain ⟨z, a, b, c⟩ := this noticeLimit y h k
    exact ⟨z, a, b, congrArg State.recheck c⟩
  intro m
  induction m with
  | zero => intro y _ k; exact absurd k (Nat.not_lt_zero _)
  | succ m ih =>
    intro y h k
    unfold Sys.settleWithin
    split
    · next e =>
      refine ⟨y, h, ?_, rfl⟩
      have : ready [] y.todo = [] := by
        unfold choose at e
        split at e
        · assumption
        · exact absurd e (by simp)
        · exact absurd e (by simp)
      exact List.eq_nil_iff_forall_not_mem.mpr fun n hn => absurd (ready_nil this n hn) (by simp)
    · next n order e =>
      have s := step y n order h (choose_mem e)
      exact ih (y.takeNext n order) s.1 (Nat.lt_of_lt_of_le s.2 (Nat.le_of_lt_succ k))

theorem State.recheck_of_idle (s : State) (h : s.jobsRun = false) : s.recheck = s := by
  unfold State.recheck
  rw [h]
  rfl

/-- The checks look at nothing that the link holds. -/
theorem State.recheck_link (s : State) (l : Link) : { s with link := l }.recheck = { s.recheck with link := l } := by
  unfold State.recheck
  have : ({ s with link := l } : State).jobsRun = s.jobsRun := rfl
  rw [this]
  split <;> rfl

theorem State.steady_link {s : State} (l : Link) (h : s.steady) : { s with link := l }.steady := by
  rw [State.steady, State.recheck_link, h]

/-- A request that is only answered leaves the answer. -/
theorem State.settle_answer {s : State} (c : Call) (r : Result) (l : Link) (h : s.steady) :
    (Sys.answer { st := { s with link := l }, todo := [] } c r).settle
      = { s with link := l.reply { code := c.code, tag := c.tag, result := r } } := by
  rw [Sys.settle_quiet _ rfl]
  exact State.steady_link (s := s) (l.reply { code := c.code, tag := c.tag, result := r }) h

/-! ### The statements' words for the path, and a pan's move (R89, R96) -/

theorem mem_allPans (p : PanId) : p ∈ allPans := by revert p; decide

/-- The states in which the path waits are those in which CHG tests the closing condition, past a coast end. -/
theorem State.waits_eq (s : State) : s.waits = (s.path.state.testsClosing && s.pastCoastEnd) := by
  unfold State.waits State.pastCoastEnd PathState.testsClosing
  cases s.path.state with
  | coasting k => cases k <;> simp
  | _ => rfl

theorem State.panUpFor_iff (s : State) (t : Option SysId) :
    s.panUpFor t = true ↔ ∃ q : PanId, (s.pan q).state = .up ∧ (s.pan q).inForce.system = t := by
  rw [State.panUpFor, List.any_eq_true]
  exact ⟨fun ⟨q, _, h⟩ => ⟨q, by simpa using h⟩, fun ⟨q, h⟩ => ⟨q, mem_allPans q, by simpa using h⟩⟩

theorem State.selectorArrived_iff (s : State) (t : Option SysId) : s.selectorArrived t = true ↔
    s.lines.selector ≠ none ∧ s.lines.selector = (s.descriptor t).map Descriptor.selector := by
  unfold State.selectorArrived State.targetPosition
  cases s.descriptor t with
  | none => simp
  | some d => simp +contextual

/-- The path closes where CHG tests the closing condition and it holds. -/
theorem State.closes_iff (s : State) :
    s.closes ↔ (s.path.state.testsClosing && s.closing.holds && s.pastCoastEnd) = true := by
  have recognized (i : SysId) : s.recognizes (some i) = true ↔ s.sense.record = .recognized i := by
    unfold State.recognizes
    cases s.sense.record <;> simp [eq_comm]
  unfold State.closes ClosingParts.holds State.closing
  rw [State.waits_eq]
  cases t : s.path.target with
  | none => simp
  | some i =>
    have arrived := State.selectorArrived_iff s (some i)
    have up := State.panUpFor_iff s (some i)
    simp only [Bool.and_eq_true, arrived, up, recognized, State.descriptor, Option.isSome_some, Option.some.injEq]
    constructor
    · rintro ⟨⟨a, b⟩, c, j, rfl, d, e, f, g⟩
      exact ⟨⟨a, ⟨⟨d, trivial, g⟩, e, f⟩, by simp [c]⟩, b⟩
    · rintro ⟨⟨a, ⟨⟨d, -, g⟩, e, f⟩, c⟩, b⟩
      exact ⟨⟨a, b⟩, by simpa using c, i, rfl, d, e, f, g⟩

theorem State.unconnected_iff (s : State) : s.unconnected ↔ s.connectionLost = true := by
  have every (f : PanId → Bool) : (!allPans.any f) = true ↔ ∀ q, f q = false := by
    rw [Bool.not_eq_true', List.any_eq_false]
    exact ⟨fun h q => by simpa using h q (mem_allPans q), fun h q _ => by simp [h q]⟩
  unfold State.unconnected State.connectionLost
  rw [Bool.and_eq_true, every, every, ← forall_and]
  refine forall_congr' fun q => and_congr_right fun _ => ?_
  by_cases h : (s.pan q).inForce.system = s.path.target <;> simp [h]

/-! ### `State.withPan` and `State.panMovedTo` -/

section

variable (s : State) (p : PanId) (u : PanState) (w : Want) (h : Hold) (c : Claim)

@[simp] theorem State.withPan_lines : (s.withPan p u w h c).lines = s.lines := rfl
@[simp] theorem State.withPan_store : (s.withPan p u w h c).store = s.store := rfl
@[simp] theorem State.withPan_sense : (s.withPan p u w h c).sense = s.sense := rfl
@[simp] theorem State.withPan_marker : (s.withPan p u w h c).marker = s.marker := rfl
@[simp] theorem State.withPan_pathTimes : (s.withPan p u w h c).pathTimes = s.pathTimes := rfl
@[simp] theorem State.withPan_ifu : (s.withPan p u w h c).ifu = s.ifu := rfl
@[simp] theorem State.withPan_outputs : (s.withPan p u w h c).outputs = s.outputs := rfl
@[simp] theorem State.withPan_path :
    (s.withPan p u w h c).path = { s.path with claims := put s.path.claims p c } := rfl
@[simp] theorem State.withPan_pan_self :
    (s.withPan p u w h c).pan p = { s.pan p with state := u, want := w, hold := h } := by
  simp [State.withPan, State.pan]
theorem State.withPan_pan_of_ne (q : PanId) (k : q ≠ p) : (s.withPan p u w h c).pan q = s.pan q := by
  simp [State.withPan, State.pan, put_get_of_ne _ _ _ _ k]
@[simp] theorem State.withPan_pan_inForce (q : PanId) :
    ((s.withPan p u w h c).pan q).inForce = (s.pan q).inForce := by
  by_cases k : q = p
  · subst k; simp
  · rw [State.withPan_pan_of_ne _ _ _ _ _ _ _ k]

/-- A pan's move is a change of the pan and of its claim. -/
theorem State.panMovedTo_eq : ∃ w h c, s.panMovedTo p u = s.withPan p u w h c := ⟨_, _, _, rfl⟩
theorem State.panMovedTo_pan_state : ((s.panMovedTo p u).pan p).state = u := by simp [State.panMovedTo]
theorem State.panMovedTo_pan_of_ne (q : PanId) (k : q ≠ p) : (s.panMovedTo p u).pan q = s.pan q :=
  State.withPan_pan_of_ne _ _ _ _ _ _ _ k

end

/-! ### The statements' words for the DEAD threshold and the sections of a START_REPORT (R26, R204) -/

/-- The lowest nominal voltage is the least of those of the descriptors that are present. -/
theorem lowestNominal_eq_min? (l : List (Option Descriptor)) :
    lowestNominal l = (l.filterMap fun d => d.map Descriptor.nominal).min? := by
  induction l with
  | nil => rfl
  | cons d l ih =>
    cases d with
    | none => simp [lowestNominal, ih]
    | some d =>
      simp only [lowestNominal, ih, List.filterMap_cons, Option.map_some, List.min?_cons]
      cases (l.filterMap fun d => d.map Descriptor.nominal).min? <;> rfl

/-- The DEAD threshold is 30 % of the lowest nominal voltage, and 300 V where no descriptor is present. -/
theorem State.deadThreshold_eq (s : State) :
    s.deadThreshold = match (s.store.descriptors.toList.filterMap fun d => d.map Descriptor.nominal).min? with
      | some n => n * 100 * 30 / 100
      | none => 300 := by
  unfold State.deadThreshold
  rw [lowestNominal_eq_min?]
  cases (s.store.descriptors.toList.filterMap fun d => d.map Descriptor.nominal).min? with
  | none => rfl
  | some n => simp only; omega

/-- A section that a load has read is present or absent as the image has it, and takes the defaults without an image. -/
theorem SectionReport.of_eq (valid : Bool) (c : Option (List Nat)) :
    SectionReport.of valid c
      = { read := true, status := some (if valid then if c.isSome then .present else .absent else .defaults) } := rfl

/-- A section that a load leaves unread is present or absent as the image has it, and has no status without one. -/
theorem SectionReport.unread_eq (valid : Bool) (c : Option (List Nat)) :
    SectionReport.unread valid c
      = { read := false, status := if valid then some (if c.isSome then .present else .absent) else none } := rfl

/-! ### The outcomes of a request (R187) -/

section
variable {α : Type} {s : State} (code tag : Byte) (always : Bool) (mask : α → Nat) (owner : Sys → Call → α → Sys)

/-- In BREAK no frame is taken. -/
theorem State.run_request_break (body : Body α) (h : s.link.watch = .break_) :
    (s.run fun y => y.request code tag always body mask owner) = s.recheck := by
  unfold State.run Sys.request
  simp only [h]
  exact Sys.settle_quiet _ rfl

/-- Without a reply place the request is discarded. -/
theorem State.run_request_overrun (body : Body α) (h : s.link.watch = .normal) (k : 4 ≤ s.link.replies) :
    (s.run fun y => y.request code tag always body mask owner)
      = { s with link := Link.overrun { s.link with framer := .hunt } }.recheck := by
  unfold State.run Sys.request
  simp only [h, Sys.edit_st]
  split
  · rw [Sys.settle_quiet _ (by rfl), ← h]
    rfl
  · next k' => exact absurd k k'

/-- A body of a wrong size is refused BAD_LENGTH. -/
theorem State.run_request_wrongSize (h : s.receives) (k : s.steady) :
    (s.run fun y => y.request code tag always .wrongSize mask owner)
      = s.answered code tag (.refused .badLength) := by
  unfold State.run Sys.request
  simp only [h.1, Sys.edit_st]
  split
  · next k' => exact absurd k' (Nat.not_le.mpr h.2)
  · exact State.settle_answer _ _ _ k

/-- A request of a right size goes on to the steps 3 and 4 of R187. -/
theorem State.run_request_fields (f : α) (h : s.receives) :
    (s.run fun y => y.request code tag always (.fields f) mask owner)
      = (Sys.letIn { st := s.heard, todo := [] } { code := code, tag := tag } always (mask f)
          fun y => owner y { code := code, tag := tag } f).settle := by
  unfold State.run Sys.request
  simp only [h.1, Sys.edit_st]
  split
  · next k' => exact absurd k' (Nat.not_le.mpr h.2)
  · rfl

/-- An admitted request is its owner's. -/
theorem State.serve_owner (f : α) (h : s.receives) (k : s.loaded = true) :
    s.serve code tag (.fields f) owner
      = (owner { st := s.heard, todo := [] } { code := code, tag := tag } f).settle := by
  have k' : s.heard.loaded = true := k
  unfold State.serve
  rw [State.run_request_fields _ _ _ _ _ _ h]
  simp [Sys.letIn, k', noMask]

/-- An admitted request with a pan mask is its owner's. -/
theorem State.serveMask_owner (f : α) (h : s.receives) (k : s.loaded = true) (m : mask f < 16) :
    s.serveMask code tag (.fields f) mask owner
      = (owner { st := s.heard, todo := [] } { code := code, tag := tag } f).settle := by
  have k' : s.heard.loaded = true := k
  unfold State.serveMask
  rw [State.run_request_fields _ _ _ _ _ _ h]
  simp [Sys.letIn, k', Nat.not_le.mpr m]

end

end Sys2Proof.Machine
end

