-- ==== Sys2Proof/Laws/PerInstr.lean ====
section
/-! SUPPORT. What holds of every command as syntax, constructor by constructor: a request has a code of the catalogue,
which is below the report codes and has the reply flag clear (R183, R197), and what is no request has neither a body nor
a pan mask that LNK would test (R187). -/

namespace Sys2Proof.Laws.Form

/-- A request's code stands below the report codes; another command has nothing of a request's form. -/
def Statement (i : Instr) : Prop :=
  match i.request with
  | some (code, _) => code ≠ 0 ∧ code.toNat < 0x60
  | none => i.whole = false ∧ i.mask = 0

theorem identify (tag : Byte) (body : Body Unit) : Statement (.identify tag body) :=
  And.intro (by decide) (by decide)

theorem status (tag : Byte) (body : Body Unit) : Statement (.status tag body) :=
  And.intro (by decide) (by decide)

theorem restart (tag : Byte) (body : Body Unit) : Statement (.restart tag body) :=
  And.intro (by decide) (by decide)

theorem stageProfile (tag : Byte) (body : Body StageFields) : Statement (.stageProfile tag body) :=
  And.intro (by decide) (by decide)

theorem readProfile (tag : Byte) (mask : Body Nat) : Statement (.readProfile tag mask) :=
  And.intro (by decide) (by decide)

theorem apply (tag : Byte) (body : Body ApplyFields) : Statement (.apply tag body) :=
  And.intro (by decide) (by decide)

theorem describeSystem (tag : Byte) (body : Body DescribeFields) : Statement (.describeSystem tag body) :=
  And.intro (by decide) (by decide)

theorem readSystem (tag : Byte) (index : Body Nat) : Statement (.readSystem tag index) :=
  And.intro (by decide) (by decide)

theorem readLine (tag : Byte) (body : Body Unit) : Statement (.readLine tag body) :=
  And.intro (by decide) (by decide)

theorem announce (tag : Byte) (body : Body AnnounceFields) : Statement (.announce tag body) :=
  And.intro (by decide) (by decide)

theorem withdraw (tag : Byte) (id : Body Nat) : Statement (.withdraw tag id) :=
  And.intro (by decide) (by decide)

theorem readAnnouncements (tag : Byte) (body : Body Unit) : Statement (.readAnnouncements tag body) :=
  And.intro (by decide) (by decide)

theorem markerSetup (tag : Byte) (setting : Body Nat) : Statement (.markerSetup tag setting) :=
  And.intro (by decide) (by decide)

theorem readOdometer (tag : Byte) (body : Body Unit) : Statement (.readOdometer tag body) :=
  And.intro (by decide) (by decide)

theorem raise (tag : Byte) (pan : Body Nat) : Statement (.raise tag pan) :=
  And.intro (by decide) (by decide)

theorem lower (tag : Byte) (pan : Body Nat) : Statement (.lower tag pan) :=
  And.intro (by decide) (by decide)

theorem drop (tag : Byte) (pan : Body Nat) : Statement (.drop tag pan) :=
  And.intro (by decide) (by decide)

theorem resetTrip (tag : Byte) (pan : Body Nat) : Statement (.resetTrip tag pan) :=
  And.intro (by decide) (by decide)

theorem readPan (tag : Byte) (mask : Body Nat) : Statement (.readPan tag mask) :=
  And.intro (by decide) (by decide)

theorem connect (tag : Byte) (index : Body Nat) : Statement (.connect tag index) :=
  And.intro (by decide) (by decide)

theorem isolate (tag : Byte) (body : Body Unit) : Statement (.isolate tag body) :=
  And.intro (by decide) (by decide)

theorem setAuto (tag : Byte) (setting : Body Nat) : Statement (.setAuto tag setting) :=
  And.intro (by decide) (by decide)

theorem clearPath (tag : Byte) (body : Body Unit) : Statement (.clearPath tag body) :=
  And.intro (by decide) (by decide)

theorem readPath (tag : Byte) (body : Body Unit) : Statement (.readPath tag body) :=
  And.intro (by decide) (by decide)

theorem zoneMode (tag : Byte) (body : Body ZoneModeFields) : Statement (.zoneMode tag body) :=
  And.intro (by decide) (by decide)

theorem iceLevel (tag : Byte) (body : Body IceLevelFields) : Statement (.iceLevel tag body) :=
  And.intro (by decide) (by decide)

theorem startProgram (tag : Byte) (body : Body StartProgramFields) : Statement (.startProgram tag body) :=
  And.intro (by decide) (by decide)

theorem stopProgram (tag : Byte) (pan : Body Nat) : Statement (.stopProgram tag pan) :=
  And.intro (by decide) (by decide)

theorem readIce (tag : Byte) (body : Body Unit) : Statement (.readIce tag body) :=
  And.intro (by decide) (by decide)

theorem gate (tag : Byte) (command : Body Nat) : Statement (.gate tag command) :=
  And.intro (by decide) (by decide)

theorem resetCounts (tag : Byte) (body : Body Unit) : Statement (.resetCounts tag body) :=
  And.intro (by decide) (by decide)

theorem qualitySetup (tag : Byte) (body : Body QualitySetupFields) : Statement (.qualitySetup tag body) :=
  And.intro (by decide) (by decide)

theorem injectArc (tag : Byte) (pan : Body Nat) : Statement (.injectArc tag pan) :=
  And.intro (by decide) (by decide)

theorem readQuality (tag : Byte) (body : Body Unit) : Statement (.readQuality tag body) :=
  And.intro (by decide) (by decide)

theorem readFaults (tag : Byte) (body : Body Unit) : Statement (.readFaults tag body) :=
  And.intro (by decide) (by decide)

theorem ackFault (tag : Byte) (body : Body AckFields) : Statement (.ackFault tag body) :=
  And.intro (by decide) (by decide)

theorem sample (tag : Byte) (body : Body Unit) : Statement (.sample tag body) :=
  And.intro (by decide) (by decide)

theorem preload (tag : Byte) (items : Body (List PreloadItem)) : Statement (.preload tag items) :=
  And.intro (by decide) (by decide)

theorem outputMode (tag : Byte) (mode : Body Nat) : Statement (.outputMode tag mode) :=
  And.intro (by decide) (by decide)

theorem start (tag : Byte) (body : Body Unit) : Statement (.start tag body) :=
  And.intro (by decide) (by decide)

theorem unknownTypeFrame (tag : Byte) (type : Byte) : Statement (.unknownTypeFrame tag type) :=
  And.intro rfl rfl

theorem badCheckFrame : Statement (.badCheckFrame) :=
  And.intro rfl rfl

theorem frameOverrun : Statement (.frameOverrun) :=
  And.intro rfl rfl

theorem frameGapExpiry : Statement (.frameGapExpiry) :=
  And.intro rfl rfl

theorem framingErrorByte : Statement (.framingErrorByte) :=
  And.intro rfl rfl

theorem linkBreakDetected : Statement (.linkBreakDetected) :=
  And.intro rfl rfl

theorem linkBreakEnd : Statement (.linkBreakEnd) :=
  And.intro rfl rfl

theorem frameSent : Statement (.frameSent) :=
  And.intro rfl rfl

theorem powerOn : Statement (.powerOn) :=
  And.intro rfl rfl

theorem resetLineAsserted : Statement (.resetLineAsserted) :=
  And.intro rfl rfl

theorem resetLineReleased : Statement (.resetLineReleased) :=
  And.intro rfl rfl

theorem flashReadyTimeout : Statement (.flashReadyTimeout) :=
  And.intro rfl rfl

theorem imageReadTimeout : Statement (.imageReadTimeout) :=
  And.intro rfl rfl

theorem loadEnd (image : List Half) : Statement (.loadEnd image) :=
  And.intro rfl rfl

theorem windowCompletion (samples : Vector Int 80) : Statement (.windowCompletion samples) :=
  And.intro rfl rfl

theorem wheelPulse : Statement (.wheelPulse) :=
  And.intro rfl rfl

theorem speedRecompute : Statement (.speedRecompute) :=
  And.intro rfl rfl

theorem telegram (t : Telegram) : Statement (.telegram t) :=
  And.intro rfl rfl

theorem panInputChange (pan : PanId) (input : PanInput) (level : Bool) : Statement (.panInputChange pan input level) :=
  And.intro rfl rfl

theorem raiseTimeout (pan : PanId) : Statement (.raiseTimeout pan) :=
  And.intro rfl rfl

theorem lowerTimeout (pan : PanId) : Statement (.lowerTimeout pan) :=
  And.intro rfl rfl

theorem dropTimeout (pan : PanId) : Statement (.dropTimeout pan) :=
  And.intro rfl rfl

theorem dipPulseEnd (pan : PanId) : Statement (.dipPulseEnd pan) :=
  And.intro rfl rfl

theorem dipRegainExpiry (pan : PanId) : Statement (.dipRegainExpiry pan) :=
  And.intro rfl rfl

theorem breakerFeedbackChange (closed : Bool) : Statement (.breakerFeedbackChange closed) :=
  And.intro rfl rfl

theorem selectorFeedbackChange (position : Option Position) : Statement (.selectorFeedbackChange position) :=
  And.intro rfl rfl

theorem selectorMoveTimeout : Statement (.selectorMoveTimeout) :=
  And.intro rfl rfl

theorem closeFeedbackTimeout : Statement (.closeFeedbackTimeout) :=
  And.intro rfl rfl

theorem openFeedbackTimeout : Statement (.openFeedbackTimeout) :=
  And.intro rfl rfl

theorem awaitLineLimitExpiry : Statement (.awaitLineLimitExpiry) :=
  And.intro rfl rfl

theorem lossCoastLimitExpiry : Statement (.lossCoastLimitExpiry) :=
  And.intro rfl rfl

theorem interlockChange (input : InterlockInput) (level : Bool) : Statement (.interlockChange input level) :=
  And.intro rfl rfl

theorem temperatureSample (reading : Int) : Statement (.temperatureSample reading) :=
  And.intro rfl rfl

theorem precipitationChange (wet : Bool) : Statement (.precipitationChange wet) :=
  And.intro rfl rfl

theorem heaterFeedbackChange (zone : ZoneId) (closed : Bool) : Statement (.heaterFeedbackChange zone closed) :=
  And.intro rfl rfl

theorem feedbackCheckExpiry (zone : ZoneId) : Statement (.feedbackCheckExpiry zone) :=
  And.intro rfl rfl

theorem heatComplete (pan : PanId) : Statement (.heatComplete pan) :=
  And.intro rfl rfl

theorem dipWaitExpiry (pan : PanId) : Statement (.dipWaitExpiry pan) :=
  And.intro rfl rfl

theorem arcSample (pulse : Bool) : Statement (.arcSample pulse) :=
  And.intro rfl rfl

theorem qualityWindowEnd (pan : PanId) : Statement (.qualityWindowEnd pan) :=
  And.intro rfl rfl

theorem reportPeriodEnd : Statement (.reportPeriodEnd) :=
  And.intro rfl rfl

theorem backfeedWatchSample : Statement (.backfeedWatchSample) :=
  And.intro rfl rfl

theorem driveExitExpiry : Statement (.driveExitExpiry) :=
  And.intro rfl rfl

theorem receivedByte (byte : Byte) : Statement (.receivedByte byte) :=
  And.intro rfl rfl

end Sys2Proof.Laws.Form
end

