-- ==== Sys2Proof/WellFormed.lean ====
section
/-! DEFINITION. Which commands a frame or an event of the TK-40 can carry: every field fits the bytes that R184 and
R197 give it, and an image is at most 4096 words (R199). Values the spec calls out of range are well formed here:
their meaning is the refusal their rule gives. -/

namespace Sys2Proof

/-- A field of one byte (R184). -/
def fitsByte (n : Nat) : Bool := n < 256

/-- A field of two bytes (R184). -/
def fitsHalf (n : Nat) : Bool := n < 65536

/-- A field that may be sent as absent. -/
def fitsOption (fits : Nat → Bool) : Option Nat → Bool
  | none => true
  | some n => fits n

/-- A body whose size is wrong carries nothing that could fail to fit. -/
def Body.fit {α : Type} (ok : α → Bool) : Body α → Bool
  | .wrongSize => true
  | .fields f => ok f

def StageFields.fit (f : StageFields) : Bool :=
  fitsByte f.set && fitsByte f.pan && fitsByte f.system && fitsByte f.explicit && fitsByte f.force && fitsByte f.rate
    && fitsByte f.policy

def ApplyFields.fit (f : ApplyFields) : Bool := fitsByte f.set && fitsByte f.mask && fitsByte f.mode

def RawDescriptor.fit (d : RawDescriptor) : Bool :=
  fitsByte d.kind && fitsHalf d.nominal && fitsOption fitsHalf d.frequency && fitsByte d.bandLow && fitsByte d.bandHigh
    && fitsOption fitsHalf d.tolerance && fitsByte d.strip && fitsByte d.force && fitsByte d.maxRaised
    && fitsByte d.selector && fitsByte d.breaker && fitsHalf d.budget && fitsByte d.confirm && fitsByte d.deviation
    && fitsByte d.neutral

def DescribeFields.fit (f : DescribeFields) : Bool :=
  fitsByte f.index && match f.content with
    | none => true
    | some d => d.fit

def AnnounceFields.fit (f : AnnounceFields) : Bool :=
  fitsByte f.kind && fitsOption fitsHalf f.parameter && fitsHalf f.distance

def AckFields.fit : AckFields → Bool
  | .all => true
  | .one k s => fitsByte k && fitsByte s

def PreloadItem.fit (i : PreloadItem) : Bool := fitsByte i.channel && fitsByte i.value

/-- A command is well formed when each of its fields fits its place in the frame, and an image its flash. -/
def Instr.wf : Instr → Bool
  | .stageProfile _ b => b.fit StageFields.fit
  | .readProfile _ b => b.fit fitsByte
  | .apply _ b => b.fit ApplyFields.fit
  | .describeSystem _ b => b.fit DescribeFields.fit
  | .readSystem _ b => b.fit fitsByte
  | .announce _ b => b.fit AnnounceFields.fit
  | .withdraw _ b => b.fit fitsByte
  | .markerSetup _ b => b.fit fitsByte
  | .raise _ b => b.fit fitsByte
  | .lower _ b => b.fit fitsByte
  | .drop _ b => b.fit fitsByte
  | .resetTrip _ b => b.fit fitsByte
  | .readPan _ b => b.fit fitsByte
  | .connect _ b => b.fit fitsByte
  | .setAuto _ b => b.fit fitsByte
  | .zoneMode _ b => b.fit fun f => fitsByte f.zone && fitsByte f.mode
  | .iceLevel _ b => b.fit fun f => fitsByte f.pan && fitsByte f.level
  | .startProgram _ b => b.fit fun f => fitsByte f.pan && fitsByte f.kind
  | .stopProgram _ b => b.fit fitsByte
  | .gate _ b => b.fit fitsByte
  | .qualitySetup _ b =>
    b.fit fun f => fitsByte f.period && fitsByte f.reports && fitsByte f.disturb && fitsByte f.clean
  | .injectArc _ b => b.fit fitsByte
  | .ackFault _ b => b.fit AckFields.fit
  | .preload _ b => b.fit fun l => decide (l.length < 256) && l.all PreloadItem.fit
  | .outputMode _ b => b.fit fitsByte
  | .loadEnd image => decide (image.length ≤ 4096)
  | .identify _ _ | .status _ _ | .restart _ _ | .readLine _ _ | .readAnnouncements _ _ | .readOdometer _ _
  | .isolate _ _ | .clearPath _ _ | .readPath _ _ | .readIce _ _ | .resetCounts _ _ | .readQuality _ _
  | .readFaults _ _ | .sample _ _ | .start _ _ | .unknownTypeFrame _ _ | .badCheckFrame | .frameOverrun
  | .frameGapExpiry | .framingErrorByte | .linkBreakDetected | .linkBreakEnd | .frameSent | .powerOn
  | .resetLineAsserted | .resetLineReleased | .flashReadyTimeout | .imageReadTimeout | .windowCompletion _
  | .wheelPulse | .speedRecompute | .telegram _ | .panInputChange _ _ _ | .raiseTimeout _ | .lowerTimeout _
  | .dropTimeout _ | .dipPulseEnd _ | .dipRegainExpiry _ | .breakerFeedbackChange _ | .selectorFeedbackChange _
  | .selectorMoveTimeout | .closeFeedbackTimeout | .openFeedbackTimeout | .awaitLineLimitExpiry
  | .lossCoastLimitExpiry | .interlockChange _ _ | .temperatureSample _ | .precipitationChange _
  | .heaterFeedbackChange _ _ | .feedbackCheckExpiry _ | .heatComplete _ | .dipWaitExpiry _ | .arcSample _
  | .qualityWindowEnd _ | .reportPeriodEnd | .backfeedWatchSample | .driveExitExpiry | .receivedByte _ => true

end Sys2Proof
end

