-- ==== Sys2Proof/Tests/Slice0.lean ====
section
/-! SUPPORT. The model's own tests: the checks of well-formedness refuse an ill-formed command each, the check bytes of
R186 on a known text, and, for every statement of the obligations, states and operands that meet its hypotheses, clause
by clause, mostly with what the command then does. -/

namespace Sys2Proof.Tests

open Sys2Proof.Machine

/-! ### Well-formedness -/

def raw : RawDescriptor :=
  { kind := 0, nominal := 250, frequency := some 500, bandLow := 70, bandHigh := 120, tolerance := some 10, strip := 2,
    force := 70, maxRaised := 2, selector := 1, breaker := 0, budget := 300, confirm := 5, deviation := 8, neutral := 0 }

theorem test_wellformed_commands :
    (Instr.describeSystem 1 (.fields { index := 1, content := some raw })).wf = true
      ∧ (Instr.preload 1 (.fields [{ channel := 22, value := 3 }])).wf = true
      ∧ (Instr.loadEnd (List.replicate 32 0)).wf = true ∧ (Instr.raise 1 .wrongSize).wf = true
      ∧ (Instr.ackFault 1 (.fields .all)).wf = true := by decide +kernel

theorem test_illformed_bytes :
    (Instr.stageProfile 1 (.fields ⟨256, 1, 1, 0, 0, 0, 0⟩)).wf = false
      ∧ (Instr.stageProfile 1 (.fields ⟨0, 256, 1, 0, 0, 0, 0⟩)).wf = false
      ∧ (Instr.stageProfile 1 (.fields ⟨0, 1, 256, 0, 0, 0, 0⟩)).wf = false
      ∧ (Instr.stageProfile 1 (.fields ⟨0, 1, 1, 256, 0, 0, 0⟩)).wf = false
      ∧ (Instr.stageProfile 1 (.fields ⟨0, 1, 1, 1, 256, 0, 0⟩)).wf = false
      ∧ (Instr.stageProfile 1 (.fields ⟨0, 1, 1, 1, 80, 256, 0⟩)).wf = false
      ∧ (Instr.stageProfile 1 (.fields ⟨0, 1, 1, 1, 80, 1, 256⟩)).wf = false
      ∧ (Instr.apply 1 (.fields ⟨256, 1, 0⟩)).wf = false ∧ (Instr.apply 1 (.fields ⟨0, 256, 0⟩)).wf = false
      ∧ (Instr.apply 1 (.fields ⟨0, 1, 256⟩)).wf = false ∧ (Instr.readProfile 1 (.fields 256)).wf = false
      ∧ (Instr.readSystem 1 (.fields 256)).wf = false ∧ (Instr.withdraw 1 (.fields 256)).wf = false
      ∧ (Instr.markerSetup 1 (.fields 256)).wf = false ∧ (Instr.raise 1 (.fields 256)).wf = false
      ∧ (Instr.lower 1 (.fields 256)).wf = false ∧ (Instr.drop 1 (.fields 256)).wf = false
      ∧ (Instr.resetTrip 1 (.fields 256)).wf = false ∧ (Instr.readPan 1 (.fields 256)).wf = false
      ∧ (Instr.connect 1 (.fields 256)).wf = false ∧ (Instr.setAuto 1 (.fields 256)).wf = false
      ∧ (Instr.zoneMode 1 (.fields ⟨256, 0⟩)).wf = false ∧ (Instr.zoneMode 1 (.fields ⟨1, 256⟩)).wf = false
      ∧ (Instr.iceLevel 1 (.fields ⟨256, 0⟩)).wf = false ∧ (Instr.iceLevel 1 (.fields ⟨1, 256⟩)).wf = false
      ∧ (Instr.startProgram 1 (.fields ⟨256, 0⟩)).wf = false ∧ (Instr.startProgram 1 (.fields ⟨1, 256⟩)).wf = false
      ∧ (Instr.stopProgram 1 (.fields 256)).wf = false ∧ (Instr.gate 1 (.fields 256)).wf = false
      ∧ (Instr.qualitySetup 1 (.fields ⟨256, 0, 6, 1⟩)).wf = false
      ∧ (Instr.qualitySetup 1 (.fields ⟨1, 256, 6, 1⟩)).wf = false
      ∧ (Instr.qualitySetup 1 (.fields ⟨1, 0, 256, 1⟩)).wf = false
      ∧ (Instr.qualitySetup 1 (.fields ⟨1, 0, 6, 256⟩)).wf = false ∧ (Instr.injectArc 1 (.fields 256)).wf = false
      ∧ (Instr.ackFault 1 (.fields (.one 256 0))).wf = false ∧ (Instr.ackFault 1 (.fields (.one 0 256))).wf = false
      ∧ (Instr.preload 1 (.fields [⟨256, 0⟩])).wf = false ∧ (Instr.preload 1 (.fields [⟨0, 256⟩])).wf = false
      ∧ (Instr.outputMode 1 (.fields 256)).wf = false := by decide +kernel

theorem test_illformed_descriptors_and_lists :
    ([{ raw with kind := 256 }, { raw with nominal := 65536 }, { raw with frequency := some 65536 },
      { raw with bandLow := 256 }, { raw with bandHigh := 256 }, { raw with tolerance := some 65536 },
      { raw with strip := 256 }, { raw with force := 256 }, { raw with maxRaised := 256 }, { raw with selector := 256 },
      { raw with breaker := 256 }, { raw with budget := 65536 }, { raw with confirm := 256 },
      { raw with deviation := 256 }, { raw with neutral := 256 }].all fun d =>
        !(Instr.describeSystem 1 (.fields { index := 1, content := some d })).wf) = true
      ∧ (Instr.describeSystem 1 (.fields { index := 256, content := none })).wf = false
      ∧ (Instr.announce 1 (.fields ⟨256, none, 0⟩)).wf = false
      ∧ (Instr.announce 1 (.fields ⟨2, some 65536, 0⟩)).wf = false
      ∧ (Instr.announce 1 (.fields ⟨3, none, 65536⟩)).wf = false
      ∧ (Instr.preload 1 (.fields (List.replicate 256 ⟨0, 0⟩))).wf = false
      ∧ (Instr.loadEnd (List.replicate 4097 0)).wf = false := by decide +kernel

/-! ### States -/

/-- What a command does, where it answers a next state. -/
def after (i : Instr) (s : State) (f : State → Bool) : Bool :=
  match exec i s with
  | .next t => f t
  | _ => false

/-- The command answers this next state. -/
def gives (i : Instr) (s t : State) : Bool := after i s fun u => decide (u = t)

/-- The command answers a next state. -/
def runs (i : Instr) (s : State) : Bool := after i s fun _ => true

/-- The result of the reply in transmission. -/
def replied (s : State) : Option Result :=
  match s.link.sending with
  | some { entry := .reply r, .. } => some r.result
  | _ => none

def heater (l : ZoneLocation) (rated priority : Nat) : Zone :=
  { Zone.reset with fitted := true, location := l, rated := rated, priority := priority }

/-- Two AC systems of 15 kV: the first admits one raised pan, the second two. -/
def supply (n : Nat) : Descriptor :=
  { kind := .ac, nominal := 150, frequency := some 500, bandLow := 70, bandHigh := 120, tolerance := some 10,
    strip := .any, force := 70, maxRaised := n + 1, selector := Fin.ofNat 3 n, breaker := .ac, budget := 30,
    confirm := 5, deviation := 8, neutral := .openBreaker }

def serving (i : SysId) : Profile := { system := some i, explicit := none, policy := .auto }

/-- P1 serves S1, P2 and P3 serve S2, P4 is unfitted; all are down. -/
def roofPan (p : PanId) : Pan :=
  { Pan.reset (decide (p.val < 3)) (p.val + 1) with
    inForce := serving (if p.val = 0 then 0 else 1), base := 70
    inputs := { headUp := false, headDown := true, contact := false, breach := false } }

/-- A roof in RUN after a load: four pans, three zones, two systems. -/
def roof : State :=
  let pans : Vector Pan 4 := #v[roofPan 0, roofPan 1, roofPan 2, roofPan 3]
  { State.reset with
    order := 0
    link := { Link.reset with holding := false }
    loader := { Loader.reset with state := .doneValid, image := some .valid, version := some 7 }
    outputs := { Outputs.reset with
      mode := .run, commanded := { Channels.safe with qv := .replicate 4 false, bt := false } }
    lines := { Lines.reset with
      pans := .replicate 4 { headUp := false, headDown := true, contact := false, breach := false }, selector := some 0 }
    pans := pans
    store := { Store.reset with
      active := pans.map Pan.inForce
      descriptors := #v[some (supply 0), some (supply 1), none, none, none, none, none, none] }
    ice := { Ice.reset with
      permit := true, budget := 20
      zones := #v[heater (.panHead 0) 20 1, heater (.panHead 1) 15 1, heater .selector 5 2, Zone.reset, Zone.reset,
        Zone.reset, Zone.reset, Zone.reset, Zone.reset, Zone.reset, Zone.reset, Zone.reset] }
    marker := { Marker.reset with odometer := 5000 } }

/-- The roof while a load runs. -/
def loading : State := { State.reset with order := 0 }

def touching : PanInputs := { headUp := true, headDown := false, contact := true, breach := false }

/-- The pan in a state, with its timer. -/
def panIn (s : State) (p : PanId) (u : PanState) (w : Want) (t : Option PanTimer) : State :=
  s.putPan p { s.pan p with state := u, want := w, timer := t }

/-- The pan in UP, touching the wire. -/
def panUp (s : State) (p : PanId) : State := s.putPan p { s.pan p with state := .up, want := .link, inputs := touching }

def pathIn (s : State) (u : PathState) (i : Option SysId) (t : Option PathTimer) : State :=
  { s with path := { s.path with state := u, target := i, timer := t } }

/-- The path is LIVE on S1 with P1 up and the breaker closed. -/
def running : State :=
  let s := pathIn (panUp roof 0) .live (some 0) none
  { s with lines := { s.lines with breakerClosed := true }, sense := { s.sense with record := .recognized 0 } }

def withMode (s : State) (m : OutputMode) (t : Option Nat) : State :=
  { s with outputs := { s.outputs with mode := m, exitTimer := t } }

def withPrograms (s : State) (l : List Program) : State := { s with ice := { s.ice with programs := l } }

def heat : Program :=
  { pan := 0, kind := .heat, state := .running, progress := 1, origin := .link, inFlight := false, wait := none,
    armed := false }

def someReply : Entry := .reply { code := 0x01, tag := 0, result := .busy }

def someReport : Report := .marker (.unmapped { code := 1, distance := 0 }) 0

def qualityReport : Report :=
  let idle : QualitySummary := { state := .idle, period := 0, total := 0, contact := 0, synthetic := 0 }
  .quality { gate := .running, period := .one, kind := .periodic, records := .replicate 4 idle }

def withLink (s : State) (f : Link → Link) : State := { s with link := f s.link }

def fault (k : FaultKind) (j : Subject) (t : FaultState) : FaultEntry :=
  { kind := k, subject := j, state := t, occurrences := 1, first := 0, last := 0 }

def table (l : List FaultEntry) : Ifu := { roof.ifu with faults := l }

theorem test_states_are_ready :
    roof.ready ∧ roof.working ∧ roof.calm ∧ roof.ice.sound ∧ roof.marker.sound ∧ roof.ifu.sound
      ∧ roof.marksSound ∧ roof.link.sound ∧ running.ready ∧ loading.receives ∧ loading.loaded = false
      ∧ loading.steady := by decide +kernel

/-! ### The queue and the link -/

theorem test_front_command_runs :
    ({ roof with pending := [.wheelPulse, .frameSent] } : State).pending = .wheelPulse :: [.frameSent] := rfl

theorem test_tick_meets : roof.pending = [] ∧ roof.jobsRun = true ∧ loading.pending = [] ∧ loading.jobsRun = false := by
  decide +kernel

theorem test_a_request_is_answered :
    (Instr.raise 7 (.fields 1)).request = some (0x1C, 7) ∧ roof.receives
      ∧ (∀ g, Instr.raise 7 (.fields 1) = .restart g (.fields ()) → roof.loaded = false)
      ∧ (∀ g, Instr.restart 7 (.fields ()) = .restart g (.fields ()) → loading.loaded = false) :=
  ⟨rfl, by decide +kernel, fun _ h => (nomatch h), fun _ _ => by decide +kernel⟩

def broken : State := withLink roof fun l => { l with watch := .break_, framer := .hunt }

def answering : State := withLink roof fun l => { l with waiting := List.replicate 4 someReply }

theorem test_forms_meet :
    broken.link.watch = .break_ ∧ broken.steady ∧ gives .badCheckFrame broken broken
      ∧ gives .frameOverrun broken broken ∧ gives .framingErrorByte broken broken
      ∧ gives (.receivedByte 0xD3) broken broken ∧ gives (.sample 1 (.fields ())) broken broken
      ∧ answering.link.watch = .normal ∧ 4 ≤ answering.link.replies ∧ answering.steady
      ∧ gives .frameOverrun answering (withLink answering fun l => { l with overruns := 1 })
      ∧ gives (.unknownTypeFrame 3 0x9C) roof (roof.answered 0x1C 3 (.refused .unknownType))
      ∧ (Instr.raise 7 .wrongSize).whole = false ∧ (Instr.preload 7 (.fields [])).whole = false
      ∧ (Instr.raise 7 (.fields 1)).whole = true ∧ loading.receives ∧ loading.loaded = false
      ∧ gives (.readProfile 7 (.fields 16)) roof (roof.answered 0x09 7 (.refused .badPan)) := by decide +kernel

theorem test_check_bytes_of_a_known_text :
    checkBytes 0x31 [0x32, 0x33, 0x34, 0x35, 0x36, 0x37, 0x38, 0x39] = [0x29, 0xB1] := by decide +kernel

def framing (f : Framer) : State := withLink roof fun l => { l with framer := f }

theorem test_framer_meets :
    gives (.receivedByte 0xD3) roof (framing .length) ∧ gives (.receivedByte 0xD2) roof roof
      ∧ gives (.receivedByte 2) (framing .length) (framing (.body 2 []))
      ∧ gives (.receivedByte 250) (framing .length) (framing (.body 250 []))
      ∧ after (.receivedByte 251) (framing .length) (fun t => decide (t.link.checkErrors = 1 ∧ t.link.framer = .hunt))
      ∧ after (.receivedByte 1) (framing .length) (fun t => decide (t.link.checkErrors = 1 ∧ t.link.framer = .hunt))
      ∧ gives (.receivedByte 1) (framing (.body 2 [])) (framing (.body 2 [1]))
      ∧ gives (.receivedByte 5) (framing (.body 2 [1])) (framing (.check [1, 5] none))
      ∧ gives (.receivedByte 9) (framing (.check [1, 5] none)) (framing (.check [1, 5] (some 9)))
      ∧ runs .frameGapExpiry roof ∧ runs .framingErrorByte roof
      ∧ after .frameGapExpiry (framing .length) (fun t => decide (t.link.abandoned = 1))
      ∧ after .linkBreakDetected (framing .length) (fun t => decide (t.link.abandoned = 1))
      ∧ after .badCheckFrame roof (fun t => decide (t.link.checkErrors = 1)) := by decide +kernel

theorem test_a_frame_is_its_request :
    checkBytes 2 [1, 5] = [0xC1, 0x68] ∧ frameCommand 1 5 [] = .identify 5 (.fields ())
      ∧ after (.receivedByte 0x68) (framing (.check [1, 5] (some 0xC1)))
          (fun t => t.link.sending.isSome && decide (t.link.checkErrors = 0))
      ∧ after (.receivedByte 0x69) (framing (.check [1, 5] (some 0xC1)))
          (fun t => t.link.sending.isNone && decide (t.link.checkErrors = 1))
      ∧ frameCommand 0x24 5 [0xFF] = .connect 5 (.fields 255) ∧ frameCommand 0x41 5 [1, 20, 1]
          = .preload 5 (.fields [{ channel := 20, value := 1 }])
      ∧ frameCommand 0x60 5 [] = .unknownTypeFrame 5 0x60 := by decide +kernel

theorem test_bytes_of_the_line :
    wireBits 0xD3 = [false, true, true, false, false, true, false, true, true, true]
      ∧ ((List.range 256).all fun n => wireByte (wireBits (BitVec.ofNat 8 n)) == some (BitVec.ofNat 8 n)) = true
      ∧ wireByte (List.replicate 10 true) = none ∧ wireByte (List.replicate 10 false) = none := by decide +kernel

theorem test_bodies_have_their_sizes :
    frameCommand 0x14 5 [1, 2, 0, 9] = .announce 5 (.fields ⟨1, some 2, 9⟩)
      ∧ frameCommand 0x14 5 [2, 7, 0xD0, 0, 9] = .announce 5 (.fields ⟨2, some 2000, 9⟩)
      ∧ frameCommand 0x14 5 [2, 7, 0, 9] = .announce 5 .wrongSize
      ∧ frameCommand 0x14 5 [1, 0, 2, 0, 9] = .announce 5 .wrongSize
      ∧ frameCommand 0x3D 5 [0xFF, 1] = .ackFault 5 .wrongSize ∧ frameCommand 0x3D 5 [0] = .ackFault 5 .wrongSize := by
  decide +kernel

/-- The two forms of ICE_ZONE by R183 and R134, from the worked example of 6.10: Z3 goes from ON to SHED at a budget and a
sum of 2.0 kW, and the level of P2 from HEAVY to CLEAR after its HEAT. -/
theorem test_ice_zone_reports_carry_their_fields_alone :
    let frame (r : Report) : List Byte := ({ entry := .report r, lost := 0x0102, slip := .flushed } : Sent).frame
    let zone : List Byte := [0x66, 0, 1, 2, 3, 3, 3, 2, 1, 1, 0, 20, 0, 20, 0]
    let level : List Byte := [0x66, 0, 1, 2, 3, 2, 0, 2, 4]
    frame (.iceZone { zone := 2, state := .shed, previous := .on, demand := .autoIcing, mode := .auto, budget := 20,
                      sumOn := 20, cause := .evaluation }) = 0xD3 :: 15 :: zone ++ checkBytes 15 zone
      ∧ frame (.iceLevel { pan := 1, level := .clear, previous := .heavy, cause := .heat })
          = 0xD3 :: 9 :: level ++ checkBytes 9 level := by decide +kernel

def queued (l : List Entry) (held : Bool) : State :=
  withLink roof fun k => { k with waiting := l, holding := held, lost := 3, slip := .discardedNew }

theorem test_next_entry_meets :
    after .frameSent (queued [] false) (fun t => t.link.sending.isNone)
      ∧ after .frameSent (queued [someReply, .report someReport] false) (fun t =>
          decide (t.link.sending.map Sent.entry = some someReply ∧ t.link.lost = 3))
      ∧ after .frameSent (queued [.report someReport, someReply] false) (fun t =>
          decide (t.link.sending = some { entry := .report someReport, lost := 3, slip := .discardedNew }
            ∧ t.link.lost = 0 ∧ t.link.slip = .none))
      ∧ after .frameSent (queued [.report someReport, someReply] true) (fun t =>
          decide (t.link.sending.map Sent.entry = some someReply ∧ t.link.waiting = [.report someReport]))
      ∧ after .frameSent (queued [.report someReport] true) (fun t => t.link.sending.isNone) := by decide +kernel

def full (l : List Entry) : Link :=
  { roof.link with sending := some { entry := someReply, lost := 0, slip := .none }, waiting := l, holding := true }

def noted : List Entry := List.replicate 27 (.report someReport)

def startedReport : StartReport := roof.startReport (.defaults .noResponse)

theorem test_posts_meet :
    (full noted).reports < 28 ∧ 28 ≤ (full (.report qualityReport :: noted)).reports
      ∧ (∀ e ∈ ([] : List Entry), e.isQuality = false) ∧ (Entry.report qualityReport).isQuality = true
      ∧ ((full (.report qualityReport :: noted)).post someReport).slip = .replacedPeriodic
      ∧ 28 ≤ (full (.report someReport :: noted)).reports
      ∧ (∀ e ∈ (full (.report someReport :: noted)).waiting, e.isQuality = false)
      ∧ ((full (.report someReport :: noted)).post qualityReport).slip = .discardedNew
      ∧ (full (someReply :: .report someReport :: noted)).waiting = [someReply] ++ .report someReport :: noted
      ∧ (full (someReply :: .report someReport :: noted)).reports = 28
      ∧ ((full (someReply :: .report someReport :: noted)).postStart startedReport).reports = 28
      ∧ (full (someReply :: noted)).reports < 28
      ∧ ((full (someReply :: noted)).postStart startedReport).holding = false := by decide +kernel

theorem test_link_break_meets :
    roof.link.watch = .normal
      ∧ after .linkBreakDetected roof (fun t => decide (t.outputs.mode = .safe ∧ t.ifu.faults.length = 1))
      ∧ (withMode roof .safe none).outputs.mode = .safe
      ∧ runs .linkBreakDetected (withMode roof .safe none) ∧ broken.link.watch = .break_
      ∧ gives .linkBreakEnd broken roof ∧ gives .linkBreakDetected broken broken := by decide +kernel

/-- The cause of the OUTPUT_MODE report that a link break brings, where another TRIP fault stands. -/
def breakCause (order : Nat) : Option ModeCause :=
  let s := { roof with order := order, ifu := { roof.ifu with faults := [fault .stripBreach (.pan 1) .activeAck] } }
  match exec .linkBreakDetected s with
  | .next t => t.link.entries.findSome? fun e => match e with
    | .report (.outputMode m) => some m.cause
    | _ => none
  | _ => none

theorem test_the_first_order_enters_safe :
    ((List.range 8).map breakCause).contains (some .linkBreak) = true
      ∧ ((List.range 8).map breakCause).contains (some .escalation) = true := by decide +kernel

theorem test_identify_and_status_meet :
    roof.receives ∧ roof.steady ∧ roof.loaded = true ∧ runs (.identify 1 (.fields ())) roof
      ∧ runs (.identify 1 (.fields ())) loading ∧ after (.status 1 (.fields ())) loading (fun t =>
          match replied t with
          | some (.ok (.status v)) => decide (v.load = .loading ∧ v.replies = 1)
          | _ => false) := by decide +kernel

/-! ### Start-up -/

theorem test_cold_starts_meet :
    after .powerOn running (fun t => decide (t.loader.state = .loading ∧ t.path.state = .isolated))
      ∧ after .resetLineAsserted running (fun t => decide (t.loader.state = .idle ∧ t.loader.cause = .resetLine))
      ∧ after .resetLineReleased { roof with loader := { roof.loader with state := .idle } } (fun t =>
          decide (t.loader.state = .loading)) := by decide +kernel

def reserved : State :=
  { running with
    store := { running.store with
      marks := put running.store.marks 1 true, status := put running.store.status 1 .inProgress }
    marker := { running.marker with
      queue := [{ id := 1, what := .lowerZone, trigger := 9000, source := .wayside }], nextId := 2 } }

theorem test_warm_starts_meet :
    reserved.receives ∧ reserved.loaded = true ∧ reserved.store.marks.get 1 = true ∧ reserved.store.marks.get 0 = false
      ∧ after (.restart 1 (.fields ())) reserved (fun t => decide (t.loader.state = .loading ∧ t.loader.kind = .warm
          ∧ t.loader.abortedPans = [1] ∧ t.loader.removedAnnouncements = 1 ∧ t.outputs.mode = .safe))
      ∧ roof.outputs.exitTimer = none ∧ roof.steady ∧ gives .driveExitExpiry roof roof
      ∧ (withMode roof .drive (some 0)).outputs.exitTimer = some 0
      ∧ after .driveExitExpiry (withMode roof .drive (some 0)) (fun t => decide (t.loader.cause = .driveExitExpiry
          ∧ t.ifu.faults.map FaultEntry.kind = [.driveExitExpired])) := by decide +kernel

/-- A header of 32 words and no section: signature, version 3, and the word that brings the sum to 0xA55A. -/
def emptyImage : List Half := [0x5A17, 3] ++ List.replicate 29 0 ++ [0x4B40]

theorem test_loads_end :
    loading.loader.state = .loading ∧ loading.ice.programs = [] ∧ (readImage emptyImage).why = none
      ∧ (readImage emptyImage).version = some 3 ∧ (readImage [0x5A16]).why = some .badSignature
      ∧ (readImage (0x5A17 :: List.replicate 31 0)).why = some .badChecksum
      ∧ after (.loadEnd emptyImage) loading (fun t => decide (t.loader.state = .doneValid ∧ t.loader.version = some 3
          ∧ t.outputs.mode = .run ∧ t.ifu.faults = []))
      ∧ after .flashReadyTimeout loading (fun t => decide (t.loader.state = .doneDefaults
          ∧ t.ifu.faults.map FaultEntry.kind = [.configImageInvalid] ∧ t.link.reports = 3)) := by decide +kernel

/-- An image with these five sections, whose last header word brings the sum to 0xA55A. -/
def imageOf (sections : List (List Nat)) : List Half :=
  let place (k : Nat) : Nat := 32 + ((sections.take k).map fun l => l.length + 1).sum
  let head := [0x5A17, 9] ++ ((List.range 5).map fun k => if sections.getD k [] = [] then 0xFFFF else place k)
    ++ List.replicate 24 0
  let sum := head.sum + (sections.map List.sum).sum
  let body := sections.flatMap fun l => l.length :: l
  (head ++ (65536 * 64 + 0xA55A - sum) % 65536 :: body).map (BitVec.ofNat 16)

/-- S1 for strip class B, P1 with class A on S1 and P2 on S8, two zones on the head of P1, one mapped code, two items. -/
def smallImage : List Half :=
  imageOf [[1, 0, 150, 500, 70, 120, 10, 1, 70, 1, 1, 0, 30, 5, 8, 0],
    [1, 1, 1, 0, 1, 1, 0, 0, 0, 0, 2, 1, 1, 2, 8, 1, 100, 1, 2],
    [1, 1, 0, 1, 20, 0, 2, 2, 1, 0, 1, 20, 0, 1], [5, 2, 2000], [22, 5, 23, 65436]]

theorem test_images_are_read :
    let r := readImage smallImage
    r.why = none ∧ r.version = some 9 ∧ timing r.sections.timing 22 1 60 10 = 5 ∧ icingOf r.sections.timing = -100
      ∧ (mapOf r.sections.marker).get 5 = some (.neutralAhead 2000) ∧ (mapOf r.sections.marker).get 6 = none
      ∧ (descriptorsOf r.sections.descriptor).get 0 = some { supply 0 with strip := .b }
      ∧ (descriptorsOf r.sections.descriptor).get 1 = none ∧ passOnlyOf r.sections.pan = true
      ∧ ((pansOf r.sections.pan).get 1).profile
          = { system := some 7, explicit := some { force := 100, rate := .normal }, policy := .forced }
      ∧ ((pansOf r.sections.pan).get 2).fitted = false ∧ ((zonesOf r.sections.zone).get 0).fitted = true
      ∧ ((zonesOf r.sections.zone).get 0).mode = .forced ∧ ((zonesOf r.sections.zone).get 1).fitted = false
      ∧ (zonesOf r.sections.zone).get 2 = Zone.reset := by decide +kernel

theorem test_loads_check_the_profiles :
    let warm := { roof with loader := { roof.loader with state := .loading, kind := .warm } }
    let load (s : State) (f : State → Bool) : Bool := after (.loadEnd smallImage) s f
    load loading (fun t => decide ((t.pan 0).inForce = { serving 0 with system := none } ∧ (t.pan 1).inForce.system = none
        ∧ t.store.staged0.get 0 = serving 0 ∧ t.store.status.get 0 = .idle ∧ (t.ice.zones.get 0).mode = .forced))
      ∧ load warm (fun t => decide (t.store.status.get 0 = .rejectedStrip ∧ t.store.status.get 1 = .rejectedUnknownSystem
        ∧ (t.pan 0).base = 40 ∧ t.store.active.get 0 = (t.pan 0).inForce ∧ (t.ice.zones.get 0).mode = .auto)) := by
  decide +kernel

theorem test_warm_loads_cure_faults :
    let entry (k : FaultKind) (j : Subject) : FaultEntry :=
      { kind := k, subject := j, state := .activeUnack, occurrences := 1, first := 0, last := 0 }
    let s := { roof with
      loader := { roof.loader with state := .loading, kind := .warm }
      ifu := { roof.ifu with faults := [entry .stripBreach (.pan 0), entry .heaterFeedback (.zone 1)] }
      ice := { roof.ice with zones := put roof.ice.zones 1 { roof.ice.zones.get 1 with state := .faulted } } }
    after .flashReadyTimeout s (fun t => decide (t.ifu.faults.map (fun e => (e.kind, e.state)) =
      [(.stripBreach, .clearedUnack), (.heaterFeedback, .clearedUnack), (.configImageInvalid, .clearedUnack)])) := by
  decide +kernel

theorem test_loads_meet :
    ({ loading with loader := { loading.loader with kind := .warm } } : State).loader.state = .loading
      ∧ after .imageReadTimeout { loading with loader := { loading.loader with kind := .warm } }
          (fun t => decide (t.outputs.mode = .run))
      ∧ after .flashReadyTimeout { loading with lines := { loading.lines with breakerClosed := true } } (fun t =>
          decide (t.path.state = .opening .request))
      ∧ after .flashReadyTimeout loading (fun t => decide ((t.pan 0).fitted = true ∧ (t.pan 0).state = .falling
          ∧ (t.pan 3).fitted = false))
      ∧ roof.loader.state ≠ .loading ∧ gives .flashReadyTimeout roof roof ∧ gives .imageReadTimeout roof roof
      ∧ gives (.loadEnd emptyImage) roof roof := by decide +kernel

/-- What a START_REPORT carries of a load that read an image, and of one that did not, at a cold start and a warm restart;
a warm restart leaves the PAN and ZONE sections unread. -/
theorem test_start_reports_meet :
    let warm : State := { roof with
      ifu := { roof.ifu with faults := [{ kind := .stripBreach, subject := .pan 0, state := .activeAck, occurrences := 1
                                          first := 0, last := 0 }] }
      loader := { roof.loader with state := .loading, kind := .warm, cause := .restart
                                   removedAnnouncements := 2, removedPrograms := 1, abortedPans := [0] } }
    let starts (i : Instr) (s : State) (f : StartReport → Bool) : Bool := after i s fun t =>
      t.link.entries.any fun e => match e with
        | .report (.startReport r) => f r
        | _ => false
    let sections (r : StartReport) : List (Bool × Option SectionStatus) := r.sections.map fun c => (c.read, c.status)
    starts (.loadEnd smallImage) loading (fun r => decide (r.kind = .cold ∧ r.image = .valid ∧ r.version = some 9
        ∧ r.aborted = [] ∧ r.faults = 0 ∧ r.tripActive = false)
          && decide (sections r = List.replicate 5 (true, some .present)))
      ∧ starts .flashReadyTimeout loading (fun r => decide (r.image = .defaults ∧ r.why = some .noResponse)
          && decide (sections r = List.replicate 5 (true, some .defaults)))
      ∧ starts (.loadEnd smallImage) warm (fun r => decide (r.kind = .warm ∧ r.cause = .restart
          ∧ r.removedAnnouncements = 2 ∧ r.removedPrograms = 1 ∧ r.aborted = [0] ∧ r.odometer = 5000 ∧ r.faults = 1
          ∧ r.tripActive = true) && decide (sections r =
            [(true, some .present), (false, some .present), (false, some .present), (true, some .present),
              (true, some .present)]))
      ∧ starts .imageReadTimeout warm (fun r => decide (sections r =
          [(true, some .defaults), (false, none), (false, none), (true, some .defaults), (true, some .defaults)])) := by
  decide +kernel

/-! ### PRF -/

theorem test_stage_profile_meets :
    after (.stageProfile 1 (.fields ⟨2, 1, 1, 0, 0, 0, 0⟩)) roof (fun t => decide (replied t = some (.refused .badSet)))
      ∧ after (.stageProfile 1 (.fields ⟨1, 5, 1, 0, 0, 0, 0⟩)) roof (fun t =>
          decide (replied t = some (.refused .badPan)))
      ∧ after (.stageProfile 1 (.fields ⟨1, 4, 8, 1, 141, 1, 2⟩)) roof (fun t =>
          decide (replied t = some (.refused .outOfRange)))
      ∧ HeaterPolicy.all[2]? = some .forced ∧ RaiseRate.all[1]? = some .normal
      ∧ after (.stageProfile 1 (.fields ⟨1, 4, 8, 1, 140, 1, 2⟩)) roof (fun t => decide (t.store.staged1.get 3
          = { system := some 7, explicit := some { force := 140, rate := .normal }, policy := .forced }))
      ∧ after (.stageProfile 1 (.fields ⟨0, 1, 0, 0, 9, 9, 0⟩)) roof (fun t => decide (t.store.staged0.get 0
          = Profile.idle)) := by decide +kernel

theorem test_describe_system_meets :
    let d := some raw
    descriptorInRange raw = true ∧ descriptorMatchesKind raw = true ∧ descriptorInRange { raw with force := 141 } = false
      ∧ descriptorInRange { raw with kind := 1 } = true ∧ descriptorMatchesKind { raw with kind := 1 } = false
      ∧ runs (.describeSystem 1 (.fields ⟨3, d⟩)) loading
      ∧ after (.describeSystem 1 (.fields ⟨9, d⟩)) roof (fun t => decide (replied t = some (.refused .badIndex)))
      ∧ after (.describeSystem 1 (.fields ⟨3, some { raw with kind := 1 }⟩)) roof (fun t =>
          decide (replied t = some (.refused .fieldMismatch)))
      ∧ after (.describeSystem 1 (.fields ⟨1, none⟩)) roof (fun t => decide (replied t = some (.refused .inUse)))
      ∧ after (.describeSystem 1 (.fields ⟨8, d⟩)) roof (fun t => (t.store.descriptors.get 7).isSome)
      ∧ after (.describeSystem 1 (.fields ⟨3, d⟩)) { roof with sense := { roof.sense with record := .recognized 2 } }
          (fun t => decide (t.sense.record = .acquiring none 0)) := by decide +kernel

def stagedFor (p : PanId) (i : SysId) (s : State) : State :=
  { s with store := { s.store with staged0 := put s.store.staged0 p (serving i) } }

def applying (s : State) (onPass : Nat) (f : State → Bool) : Bool := after (.apply 1 (.fields ⟨0, 2, onPass⟩)) s f

theorem test_apply_is_stopped :
    (withMode roof .drive none).held = true ∧ runs (.apply 1 (.fields ⟨0, 1, 0⟩)) (withMode roof .drive none)
      ∧ after (.apply 1 (.fields ⟨2, 1, 0⟩)) roof (fun t => decide (replied t = some (.refused .badSet)))
      ∧ after (.apply 1 (.fields ⟨1, 0, 0⟩)) roof (fun t => decide (replied t = some (.refused .emptyMask)))
      ∧ after (.apply 1 (.fields ⟨0, 1, 2⟩)) roof (fun t => decide (replied t = some (.refused .outOfRange)))
      ∧ (stagedFor 1 0 roof).store.staged0.get 1 = serving 0 := by decide +kernel

theorem test_apply_decides :
    let status (s : State) (c : ConfigStatus) : Bool := decide (s.store.status.get 1 = c)
    let strip := put roof.store.descriptors 0 (some { supply 0 with strip := .b })
    applying (stagedFor 1 0 (roof.putPan 1 { roof.pan 1 with fitted := false })) 0 (status · .rejectedUnfitted)
      ∧ applying (stagedFor 1 0 reserved) 1 (fun t => decide (replied t = some (.ok (.applied [] [1] []))))
      ∧ applying (stagedFor 1 7 roof) 0 (status · .rejectedUnknownSystem)
      ∧ applying (stagedFor 1 0 { roof with store := { roof.store with descriptors := strip } }) 0
          (status · .rejectedStrip)
      ∧ applying (stagedFor 1 0 { roof with store := { roof.store with passOnly := true } }) 0
          (status · .rejectedPassOnly)
      ∧ applying (stagedFor 1 0 (panUp roof 1)) 0 (status · .rejectedRaised)
      ∧ applying (stagedFor 1 0 roof) 0 (status · .success) ∧ applying (stagedFor 1 0 roof) 1 (status · .success)
      ∧ applying (stagedFor 1 0 (panUp roof 1)) 1 (status · .inProgress) := by decide +kernel

theorem test_apply_takes_every_pan_of_its_mask :
    let s := stagedFor 2 1 (stagedFor 1 0 (panUp roof 1))
    let result (u : State) (mode : Nat) (r : Result) (f : State → Bool) : Bool :=
      after (.apply 1 (.fields ⟨0, 15, mode⟩)) u fun t => decide (replied t = some r) && f t
    (∀ g ∈ s.ice.programs, g.armed = false) ∧ (∀ g ∈ (withPrograms s [heat]).ice.programs, g.armed = false)
      ∧ result s 0 (.ok (.applied [(0, .success), (2, .success)] [] [(1, .rejectedRaised), (3, .rejectedUnfitted)]))
          (fun t => decide ((t.pan 2).inForce = serving 1 ∧ t.pan 1 = s.pan 1))
      ∧ result (withPrograms s [heat]) 1
          (.ok (.applied [(0, .success), (1, .inProgress), (2, .success)] [] [(3, .rejectedUnfitted)]))
          (fun t => decide (t.store.marks.get 1 = true ∧ t.link.reports = 3)) := by decide +kernel

theorem test_first_reads_meet :
    after (.readProfile 1 (.fields 0)) roof (fun t => decide (replied t = some (.ok (.profiles [] false))))
      ∧ runs (.readProfile 1 (.fields 15)) roof ∧ runs (.readSystem 1 (.fields 0)) roof
      ∧ runs (.readSystem 1 (.fields 8)) roof ∧ runs (.readLine 1 (.fields ())) running
      ∧ runs (.readLine 1 (.fields ())) { roof with sense := { roof.sense with record := .acquiring (some 0) 2 } }
      ∧ runs (.readLine 1 (.fields ())) { roof with sense := { roof.sense with record := .suspect 0 0 1 } }
      ∧ runs (.readAnnouncements 1 (.fields ())) reserved ∧ runs (.readOdometer 1 (.fields ())) roof
      ∧ after (.readPan 1 (.fields 0)) roof (fun t => decide (replied t = some (.refused .emptyMask)))
      ∧ runs (.readPan 1 (.fields 15)) roof ∧ runs (.readPan 1 (.fields 1)) loading := by decide +kernel

/-! ### LSR -/

def flat (v : Int) : Vector Int 80 := .replicate 80 v

def dcSupply : Descriptor := { supply 0 with kind := .dc, frequency := none, tolerance := none, nominal := 250 }

/-- The roof with one DC system of 25 kV, and the record as given. -/
def sensing (r : LineRecord) : State :=
  { roof with
    store := { roof.store with descriptors := put roof.store.descriptors 0 (some dcSupply) }
    sense := { roof.sense with record := r, previous := List.replicate 80 25000, side := some true } }

theorem test_windows_meet :
    after (.windowCompletion (flat 25000)) (sensing .dead) (fun t =>
        decide (t.sense.latest.candidate = .system 0 ∧ t.sense.latest.kind = some .dc))
      ∧ after (.windowCompletion (flat 0)) (sensing .dead) (fun t => decide (t.sense.latest.candidate = .dead))
      ∧ after (.windowCompletion (flat 10000)) (sensing .dead) (fun t => decide (t.sense.latest.candidate = .noMatch))
      ∧ after (.windowCompletion (flat 60001)) (sensing .dead) (fun t =>
          decide (t.sense.latest.clipped = some true ∧ t.sense.latest.candidate = .noMatch))
      ∧ after (.windowCompletion (flat 60000)) (sensing .dead) (fun t => decide (t.sense.latest.clipped = some false))
      ∧ after (.windowCompletion (flat 0)) loading (fun t => decide (t.sense = loading.sense)) := by decide +kernel

/-- 30 % of the lower nominal voltage, 15 kV, are 4.5 kV: below them a window is DEAD, from them on it has no match; with no descriptor, 0.3 kV. -/
theorem test_the_dead_threshold_is_met_at_its_value :
    let bare : State := { roof with store := { roof.store with descriptors := .replicate 8 none } }
    let has (s : State) (v : Int) (c : Candidate) : Bool :=
      s.loaded && after (.windowCompletion (flat v)) s fun t => decide (t.sense.latest.candidate = c)
    has (sensing .dead) 4490 .dead ∧ has (sensing .dead) 4500 .noMatch ∧ has bare 290 .dead ∧ has bare 300 .noMatch := by
  decide +kernel

/-- A window of 50.0 Hz at this peak, and a window of 25 kV with its first samples at 9 kV. -/
def square (peak : Int) : Vector Int 80 := Vector.ofFn fun n : Fin 80 => if n.val / 20 % 2 = 0 then peak else -peak

def dipped (n : Nat) : Vector Int 80 := Vector.ofFn fun k : Fin 80 => if k.val < n then 9000 else 25000

theorem test_windows_are_measured :
    let alternating := { roof with sense := { roof.sense with
      previous := (square 15000).toList, side := some false, crossings := ([], [0, 20, 40, 60], [0, 20, 40, 60]) } }
    let deviating (n : Nat) (good : Bool) : Bool := after (.windowCompletion (dipped n)) (sensing .dead) fun t =>
      decide (t.sense.latest.deviation = some n ∧ (sensing .dead).goodWindow t.sense.latest = good)
    after (.windowCompletion (square 15000)) alternating (fun t =>
        decide (t.sense.latest.candidate = .system 0 ∧ t.sense.latest.kind = some .ac
          ∧ t.sense.latest.magnitude = some 1500 ∧ t.sense.latest.frequency = some 5000
          ∧ t.sense.latest.deviation = some 0))
      ∧ deviating 0 true ∧ deviating 8 true ∧ deviating 9 false := by decide +kernel

theorem test_records_meet :
    (sensing (.recognized 0)).loaded = true ∧ (sensing (.recognized 0)).steady
      ∧ after (.windowCompletion (flat 25000)) (sensing (.recognized 0)) (fun t =>
          decide (t.sense.record = .recognized 0))
      ∧ after (.windowCompletion (flat 0)) (sensing (.recognized 0)) (fun t => decide (t.sense.record = .suspect 0 0 1))
      ∧ (∀ i d, (sensing .dead).store.descriptors.get i = some d → 5 ≤ d.confirm)
      ∧ after (.windowCompletion (flat 25000)) (sensing .dead) (fun t =>
          decide (t.sense.record = .acquiring (some 0) 1))
      ∧ after (.windowCompletion (flat 25000)) (sensing (.acquiring (some 0) 4)) (fun t =>
          decide (t.sense.record = .recognized 0))
      ∧ after (.windowCompletion (flat 25000)) (sensing (.suspect 0 1 0)) (fun t =>
          decide (t.sense.record = .recognized 0))
      ∧ after (.windowCompletion (flat 0)) (sensing (.suspect 0 0 2)) (fun t => decide (t.sense.record = .dead)) := by
  refine ⟨by decide +kernel, by decide +kernel, by decide +kernel, by decide +kernel, ?_, by decide +kernel,
    by decide +kernel, by decide +kernel, by decide +kernel⟩
  have h : ∀ i : SysId, ((sensing .dead).store.descriptors.get i).all (fun d => decide (5 ≤ d.confirm)) = true := by
    decide +kernel
  intro i d e
  simpa [e] using h i

/-! ### MKR -/

theorem test_odometer_meets :
    after .wheelPulse roof (fun t => decide (t.marker.odometer = 5001 ∧ t.marker.remainder = 0))
      ∧ gives .wheelPulse loading loading
      ∧ after .wheelPulse { roof with marker := { roof.marker with odometer := 4294967295 } } (fun t =>
          decide (t.marker.odometer = 4294967295))
      ∧ (withMode roof .drive none).jobsRun = false
      ∧ after .wheelPulse { withMode roof .drive none with marker := { roof.marker with
            queue := [{ id := 1, what := .lowerZone, trigger := 5021, source := .wayside }] } } (fun t =>
          decide (t.marker.queue = [] ∧ t.link.reports = 1))
      ∧ after .speedRecompute { roof with marker := { roof.marker with readings := List.replicate 10 499000 } } (fun t =>
          decide (t.marker.speed = 100))
      ∧ after .speedRecompute { roof with marker := { roof.marker with
            odometer := odometerEnd, readings := List.replicate 10 (odometerEnd * 100 + 99) } } (fun t =>
          decide (t.marker.speed = 0)) := by decide +kernel

/-- A NEUTRAL coast to an end, at 5000 m and a metre before the next pulse is done, with what the selector then reads. -/
def neutralCoast (coastEnd : Nat) (position : Option Position) : State :=
  let s := pathIn running (.coasting (.neutral coastEnd)) (some 0) none
  { s with lines := { s.lines with breakerClosed := false, selector := position } }

theorem test_neutral_coasts_end_by_the_odometer :
    let pulses (s : State) (u : PathState) : Bool := s.jobsRun && decide (s.ice.programs = [] ∧ s.marker.queue = [])
      && after .wheelPulse s fun t => decide (t.path.state = u ∧ t.pans = s.pans)
    pulses (neutralCoast 5001 (some 0)) .closing
      ∧ pulses (neutralCoast 5002 (some 0)) (.coasting (.neutral 5002))
      ∧ pulses (neutralCoast 5001 none) (.coasting (.neutral 5001))
      ∧ pulses (neutralCoast 4801 none) (.coasting .loss)
      ∧ pulses (neutralCoast 4802 none) (.coasting (.neutral 4802))
      ∧ pulses (neutralCoast 4801 (some 0)) .closing
      ∧ after .wheelPulse (neutralCoast 4801 none) (fun t => decide (t.link.reports = 0 ∧ t.path.timer
          = some { kind := .lossCoast, remaining := (neutralCoast 4801 none).pathTimes.lossCoast }))
      ∧ after .wheelPulse { neutralCoast 5000 (some 0) with marker := { roof.marker with perPulse := 99 } } (fun t =>
          decide (t.path.state = .coasting (.neutral 5000) ∧ t.link.reports = 0)) := by decide +kernel

def telegramOf (code : Fin 64) (parity : Bool) : Telegram :=
  { code := code, distance := 2, parity := parity, framingError := false }

def heardPairs (n : Nat) : State :=
  { roof with marker := { roof.marker with history := List.replicate n { code := 1, distance := 20 } } }

theorem test_telegrams_meet :
    goodTelegram (telegramOf 1 false) = true ∧ goodTelegram (telegramOf 1 true) = false
      ∧ gives (.telegram (telegramOf 1 false)) loading loading
      ∧ after (.telegram (telegramOf 1 true)) roof (fun t => decide (t.marker.parityErrors = 1))
      ∧ after (.telegram (telegramOf 1 false)) (heardPairs 2) (fun t => decide (t.marker.declarations = 0))
      ∧ after (.telegram (telegramOf 1 false)) (heardPairs 3) (fun t =>
          decide (t.marker.declarations = 1 ∧ t.marker.unmapped = 1))
      ∧ after (.telegram (telegramOf 1 false)) { heardPairs 10 with marker := { (heardPairs 10).marker with
            map := put roof.marker.map 1 (some .lowerZone), validation := .eightOfTen } } (fun t =>
          decide (t.marker.history.length = 10 ∧ t.path.lowerZone = true)) := by decide +kernel

def entry (id trigger : Nat) : Announcement :=
  { id := id, what := .lowerZone, trigger := trigger, source := .routeData }

def queueing (l : List Announcement) : Marker := { roof.marker with queue := l, nextId := 50 }

theorem test_offers_meet :
    let eight := (List.range 8).map fun n => entry (n + 1) (6000 + 100 * n)
    ((queueing [entry 1 6000, entry 2 6100]).offer .lowerZone 6050 .wayside).merged = [entry 2 6100]
      ∧ ((queueing [entry 1 6000]).offer .lowerZone 6051 .wayside).outcome = .inserted
      ∧ ((queueing eight).offer .lowerZone 5020 .wayside).outcome = .dueAtOnce
      ∧ ((queueing eight).offer .icePermit 6699 .wayside).evicted = some (entry 8 6700)
      ∧ ((queueing eight).offer .icePermit 6050 .wayside).marker.queue
          = [entry 1 6000, { id := 50, what := .icePermit, trigger := 6050, source := .wayside }]
            ++ ((List.range 6).map fun n => entry (n + 2) (6100 + 100 * n))
      ∧ ((queueing [entry 1 6000, entry 2 6100, entry 3 6120]).offer .lowerZone 6060 .routeData).marker.queue
          = [entry 1 6000, entry 2 6060, entry 3 6120]
      ∧ ((queueing [entry 1 6000, entry 2 6030, entry 3 6200]).offer .lowerZone 6020 .wayside).marker.queue
          = [{ entry 2 6020 with source := .wayside }, entry 3 6200]
      ∧ ((queueing eight).offer .icePermit 6700 .wayside).outcome = .refused := by decide +kernel

theorem test_announce_meets :
    let refuses (f : AnnounceFields) (r : Reason) : Bool :=
      after (.announce 1 (.fields f)) roof fun t => decide (replied t = some (.refused r))
    refuses ⟨0, none, 0⟩ .badKind ∧ refuses ⟨7, none, 0⟩ .badKind ∧ refuses ⟨1, none, 0⟩ .fieldMismatch
      ∧ refuses ⟨6, some 1, 0⟩ .fieldMismatch ∧ refuses ⟨1, some 9, 0⟩ .outOfRange ∧ refuses ⟨2, some 2001, 0⟩ .outOfRange
      ∧ refuses ⟨3, none, 20001⟩ .outOfRange
      ∧ after (.announce 1 (.fields ⟨2, some 2000, 20000⟩)) roof (fun t => decide (t.marker.queue
          = [{ id := 1, what := .neutralAhead 2000, trigger := 25000, source := .routeData }]))
      ∧ after (.announce 1 (.fields ⟨6, none, 0⟩)) roof (fun t => decide (t.ice.permit = false)) := by decide +kernel

theorem test_withdraw_and_setup_meet :
    reserved.marker.queue = [] ++ { id := 1, what := .lowerZone, trigger := 9000, source := .wayside } :: []
      ∧ after (.withdraw 1 (.fields 1)) reserved (fun t => decide (t.marker.queue = []))
      ∧ after (.withdraw 1 (.fields 0)) reserved (fun t => decide (replied t = some .unknownId))
      ∧ Validation.all[1]? = some .eightOfTen ∧ runs (.markerSetup 1 (.fields 1)) roof
      ∧ after (.markerSetup 1 (.fields 2)) roof (fun t => decide (replied t = some (.refused .outOfRange))) := by
  decide +kernel

/-! ### PAN -/

theorem test_raise_conditions_meet :
    let p1 := roof.pan 0
    let of (s : State) (w : ClaimReason) : Bool := decide (s.raiseRefusal 0 = some w)
    roof.raiseRefusal 0 = none
      ∧ roof.raiseRefusal 3 = some (.because .unfitted)
      ∧ of (roof.putPan 0 { p1 with inForce := Profile.idle }) (.because .noSystem)
      ∧ of { roof with ifu := { roof.ifu with earthed := true } } (.because .earthed)
      ∧ of { roof with ifu := { roof.ifu with airLow := true } } (.because .airLow)
      ∧ of (roof.putPan 0 { p1 with inputs := { p1.inputs with breach := true } }) (.because .stripBreach)
      ∧ of (withMode roof .clamp none) .mode
      ∧ of { roof with ifu := { roof.ifu with watch := .present false } } (.because .backfeed)
      ∧ of { roof with path := { roof.path with lowerZone := true } } (.because .lowerZone)
      ∧ of { roof with ice := { roof.ice with levels := put roof.ice.levels 0 .severe } } (.because .iceSevere)
      ∧ of (panUp roof 1) (.because .limit)
      ∧ (panUp (roof.putPan 1 { roof.pan 1 with inForce := serving 1 }) 2).raiseRefusal 1 = none
      ∧ (panUp roof 0).raiseRefusal 1 = some (.because .mixedSystem)
      ∧ (pathIn roof .selecting (some 1) none).raiseRefusal 0 = some (.because .wrongSystem) := by decide +kernel

theorem test_raise_meets :
    let raise (s : State) (r : Result) : Bool := after (.raise 1 (.fields 1)) s fun t => decide (replied t = some r)
    raise (withMode roof .drive none) .mode
      ∧ after (.raise 1 (.fields 5)) roof (fun t => decide (replied t = some (.refused .badPan)))
      ∧ raise (panUp roof 0) (.ok (.panState .up)) ∧ raise (panIn roof 0 .falling .none none) .busy
      ∧ raise (panIn roof 0 .tripped .none none) (.refused .tripped)
      ∧ raise (roof.putPan 0 { roof.pan 0 with hold := .awaiting }) .busy ∧ raise (withMode roof .clamp none) .mode
      ∧ raise { roof with ifu := { roof.ifu with earthed := true } } (.refused .earthed)
      ∧ raise (pathIn roof .live (some 0) none) (.ok (.panState .rising)) ∧ raise roof (.ok (.panState .rising)) := by
  decide +kernel

/-- P1 in DOWN holds a retry armed with its HEAT, and P2 is heated too; in `marked`, P1 has a profile pending. -/
def heldRetry (w : Want) (u : PathState) (marked : Bool) : State :=
  let s := pathIn roof u (some 0) none
  let s := withPrograms (s.putPan 0 { s.pan 0 with want := w, hold := .armed })
    [{ heat with armed := true, origin := .auto }, { heat with pan := 1, state := .paused }]
  let s := { s with path := { s.path with claims := put s.path.claims 0 (if w = .path then .held else .none) } }
  if marked then { s with store := (s.store.setStatus 0 .inProgress) } else s

theorem test_lower_and_drop_meet :
    let ends (i : Instr) (s : State) : Bool := after i s fun t => decide ((t.pan 0).state = .down
      ∧ (t.pan 0).want = .none ∧ (t.pan 0).hold = .none ∧ t.path = s.path ∧ t.pan 1 = s.pan 1
      ∧ t.ice.programs.all fun g => !g.armed)
    let pending := heldRetry .path .awaitLine true
    after (.lower 1 (.fields 1)) (panUp roof 0) (fun t => decide ((t.pan 0).state = .falling ∧ (t.pan 0).want = .link))
      ∧ after (.drop 1 (.fields 1)) (panUp roof 0) (fun t =>
          decide ((t.pan 0).state = .dropping ∧ (t.pan 0).trip = some .linkDrop))
      ∧ after (.drop 1 (.fields 1)) (panIn roof 0 .falling .link none) (fun t => decide ((t.pan 0).state = .dropping))
      ∧ after (.lower 1 (.fields 1)) (panIn roof 0 .falling .link none) (fun t => decide ((t.pan 0).state = .falling))
      ∧ after (.lower 1 (.fields 1)) (roof.putPan 0 { roof.pan 0 with hold := .awaiting, want := .link }) (fun t =>
          decide ((t.pan 0).hold = .none ∧ (t.pan 0).want = .none))
      ∧ after (.lower 1 (.fields 0)) roof (fun t => decide (replied t = some (.refused .badPan)))
      ∧ after (.drop 1 (.fields 1)) (withMode roof .drive none) (fun t => decide (replied t = some .mode))
      ∧ ends (.lower 1 (.fields 1)) (heldRetry .link .isolated false)
      ∧ ends (.drop 1 (.fields 1)) (heldRetry .path .awaitLine false) ∧ ends (.lower 1 (.fields 1)) pending
      ∧ after (.lower 1 (.fields 1)) pending (fun t => decide (t.store.marks.get 0 = false))
      ∧ pending.ice.programs.all (fun h => match roof.ice.headZone h.pan with
          | some z => decide ((roof.ice.zones.get z).state ≠ .faulted ∧ (roof.ice.zones.get z).mode ≠ .off
              ∧ (roof.pan h.pan).inForce.policy ≠ .off)
          | none => false) := by decide +kernel

theorem test_reset_trip_meets :
    let tripped := panIn roof 0 .tripped .none none
    let set (i : PanInputs) : State := tripped.putPan 0 { tripped.pan 0 with inputs := i }
    let reset (s : State) (r : Result) : Bool := after (.resetTrip 1 (.fields 1)) s fun t => decide (replied t = some r)
    reset roof (.refused .notTripped) ∧ reset (withMode tripped .drive none) .mode
      ∧ reset (set { headUp := false, headDown := true, contact := false, breach := true }) (.refused .stripBreach)
      ∧ reset { tripped with ifu := { roof.ifu with airLow := true } } (.refused .airLow)
      ∧ reset (set touching) (.refused .headNotDown)
      ∧ reset (set { headUp := true, headDown := true, contact := false, breach := false }) (.refused .headNotDown)
      ∧ after (.resetTrip 1 (.fields 1)) tripped (fun t => decide ((t.pan 0).state = .down)) := by decide +kernel

/-- P1 takes a change of an input. -/
def senses (s : State) (k : PanInput) (level : Bool) (u : PanState) : Bool :=
  after (.panInputChange 0 k level) s fun t => decide ((t.pan 0).state = u)

theorem test_pan_inputs_meet :
    let rising := roof.putPan 0 { roof.pan 0 with state := .rising, want := .link, inputs := { touching with contact := false } }
    let regain := roof.putPan 0
      { roof.pan 0 with
        state := .dipping, inputs := { touching with contact := false }
        timer := some { kind := .dipRegain, remaining := 9 } }
    roof.steady ∧ runs (.panInputChange 0 .headUp true) loading ∧ runs (.panInputChange 3 .headUp true) roof
      ∧ senses roof .contact true .down ∧ senses roof .headDown false .falling
      ∧ senses (panUp roof 0) .breach true .dropping ∧ senses rising .contact true .up
      ∧ senses rising .headUp false .rising ∧ senses (panUp roof 0) .contact false .up
      ∧ senses (panUp roof 0) .headUp false .dropping
      ∧ senses (withMode (panUp roof 0) .safe none) .headUp false .falling
      ∧ senses regain .contact true .up ∧ senses regain .headUp false .dipping
      ∧ senses (panIn (panUp roof 0) 0 .falling .link none) .headDown true .falling
      ∧ senses (panIn roof 0 .falling .link none) .headDown true .down
      ∧ senses (panIn roof 0 .falling .link none) .breach true .dropping
      ∧ senses (panIn roof 0 .dropping .link none) .headDown true .tripped
      ∧ senses (panIn roof 0 .dropping .link none) .headDown false .dropping
      ∧ senses (panIn roof 0 .tripped .none none) .headUp true .tripped := by decide +kernel

/-- The path in a state on S1 with P1 in UP for it, and the breaker closed or open. -/
def carried (u : PathState) (closed : Bool) : State :=
  let s := pathIn running u (some 0) none
  let s := s.putPan 0 { s.pan 0 with want := .path }
  { s with lines := { s.lines with breakerClosed := closed } }

/-- P1 rises for the path, and only its contact is wanting. -/
def touchesNext (u : PathState) : State :=
  (carried u false).putPan 0 { (carried u false).pan 0 with state := .rising, inputs := { touching with contact := false } }

/-- The path and P1 after a command. -/
def moved (i : Instr) (s : State) (u : PathState) (v : PanState) : Bool :=
  after i s fun t => decide (t.path.state = u ∧ (t.pan 0).state = v)

/-- P2 is up for the path beside P1. -/
def beside (s : State) : State :=
  s.putPan 1 { s.pan 1 with state := .up, want := .path, inForce := serving 0, inputs := touching }

/-- P1 is TRIPPED with its head down, two failures and its two conditions of the Fault Table. -/
def trippedIn (u : PathState) : State :=
  let s := { carried u false with lines := { roof.lines with breakerClosed := false }
                                  ifu := table [fault .stripBreach (.pan 0) .activeUnack, fault .airLoss (.pan 0) .activeAck] }
  s.putPan 0 { roof.pan 0 with state := .tripped, trip := some .linkDrop, failures := 2 }

theorem test_reset_trip_acts_in_every_path_state :
    let resets (s : State) (u : PathState) (v : PanState) : Bool :=
      decide s.ready && !s.held && after (.resetTrip 1 (.fields 1)) s fun t => decide (t.path.state = u
        ∧ (t.pan 0).state = v ∧ (t.pan 0).trip = none ∧ (t.pan 0).failures = 0
        ∧ (t.ifu.faults.filter fun e => e.kind = .stripBreach || e.kind = .airLoss).map FaultEntry.state = [.clearedUnack])
    (trippedIn .live).ifu.sound ∧ resets (trippedIn .awaitLine) .isolated .down
      ∧ decide ((trippedIn .awaitLine).panMovedTo 0 .down).unconnected
      ∧ !decide ((beside (trippedIn .awaitLine)).panMovedTo 0 .down).unconnected
      ∧ resets (beside (trippedIn .live)) .live .down ∧ resets (beside (trippedIn .closing)) .closing .down
      ∧ resets (withPrograms (beside (trippedIn .live)) [{ heat with pan := 1 }]) .live .down
      ∧ (withPrograms (trippedIn .live) [{ heat with pan := 1 }]).heatable { heat with pan := 1 }
      ∧ resets (trippedIn (.coasting .zone)) (.coasting .zone) .down
      ∧ resets (trippedIn (.opening .loss)) (.opening .loss) .down ∧ resets (trippedIn .selecting) .selecting .down
      ∧ resets (beside (trippedIn (.changing 1))) (.changing 1) .down
      ∧ resets (trippedIn (.changing 0)) .awaitLine .rising := by decide +kernel

theorem test_a_pan_in_up_closes_a_path_that_waits :
    let touches (u new : PathState) (v : PanState) : Bool := moved (.panInputChange 0 .contact true) (touchesNext u) new v
    let turned : State := { touchesNext .awaitLine with lines := { (touchesNext .awaitLine).lines with selector := none } }
    let read : State := { touchesNext .awaitLine with lines := { (touchesNext .awaitLine).lines with breakerClosed := true } }
    let meets (u : PathState) : Bool := decide ((touchesNext u).panMovedTo 0 .up).closes
    meets .awaitLine ∧ touches .awaitLine .closing .up
      ∧ meets (.coasting .loss) ∧ touches (.coasting .loss) .closing .up
      ∧ meets (.coasting (.neutral 5000)) ∧ touches (.coasting (.neutral 5000)) .closing .up
      ∧ !meets (.coasting (.neutral 5001)) ∧ touches (.coasting (.neutral 5001)) (.coasting (.neutral 5001)) .up
      ∧ touches .selecting .selecting .up ∧ touches (.changing 1) (.changing 1) .falling
      ∧ !decide (turned.panMovedTo 0 .up).closes ∧ !decide (turned.panMovedTo 0 .up).unconnected
      ∧ moved (.panInputChange 0 .contact true) turned .awaitLine .up
      ∧ moved (.panInputChange 0 .contact true) read .live .up := by decide +kernel

theorem test_the_last_pan_takes_the_path_with_it :
    let lowers (s : State) (u : PathState) : Bool := moved (.lower 1 (.fields 1)) s u .falling
    let drops (s : State) (u : PathState) : Bool := moved (.drop 1 (.fields 1)) s u .dropping
    let loses (s : State) (u : PathState) : Bool := moved (.panInputChange 0 .headUp false) s u .dropping
    let two (s : State) : State := s.putPan 1 { s.pan 1 with state := .up, want := .path, inForce := serving 0 }
    let s := carried .awaitLine false
    decide ((carried .live true).leavesWire 0 .falling) ∧ lowers (carried .live true) (.opening .pan)
      ∧ drops (carried .live true) (.opening .pan) ∧ loses (carried .closing true) (.opening .pan)
      ∧ lowers (carried .live false) .isolated ∧ loses (carried .closing false) .isolated
      ∧ !decide ((two (carried .live true)).leavesWire 0 .falling) ∧ lowers (two (carried .live true)) .live
      ∧ decide (s.panMovedTo 0 .falling).unconnected ∧ lowers s .isolated
      ∧ after (.lower 1 (.fields 1)) s (fun t => decide (t.ifu.faults.map FaultEntry.kind = [.noPanForSystem]))
      ∧ decide ((two s).panMovedTo 0 .falling).closes ∧ lowers (two s) .closing
      ∧ lowers (carried (.coasting .loss) false) .isolated ∧ drops (carried (.coasting (.neutral 9)) false) .isolated
      ∧ lowers (two (carried (.coasting .loss) false)) .closing
      ∧ lowers (two (carried (.coasting (.neutral 5001)) false)) (.coasting (.neutral 5001))
      ∧ lowers (carried (.changing 1) false) (.changing 1) ∧ lowers (carried (.opening .loss) true) (.opening .loss)
      ∧ lowers (carried .selecting false) .selecting ∧ lowers (carried (.coasting .zone) false) (.coasting .zone)
      ∧ lowers (carried (.faulted .breakerStuckClosed) true) (.faulted .breakerStuckClosed)
      ∧ after (.lower 1 (.fields 1)) (panIn (carried .live false) 1 .up .path none) (fun t =>
          decide ((t.pan 1).state = .falling)) := by decide +kernel

theorem test_raise_timeouts_meet :
    let s := panIn roof 0 .rising .link (some { kind := .raise, remaining := 0 })
    let cold := s.putPan 0 { s.pan 0 with inForce := { serving 0 with policy := .off } }
    let falls (l : List Program) : Bool := after (.raiseTimeout 0) (withPrograms s l) fun t =>
      decide ((t.pan 0).state = .falling ∧ (t.pan 0).failures = 1 ∧ (t.pan 0).hold = .none ∧ (t.pan 0).want = .none)
    s.calm ∧ s.declines 0 = false ∧ cold.declines 0 = true ∧ (roof.pan 0).timer = none
      ∧ gives (.raiseTimeout 0) roof roof
      ∧ after (.raiseTimeout 0) s (fun t => decide ((t.pan 0).hold = .armed ∧ t.ice.levels.get 0 = .heavy))
      ∧ after (.raiseTimeout 0) cold (fun t => decide ((t.pan 0).hold = .none ∧ (t.pan 0).want = .none))
      ∧ after (.raiseTimeout 0) (s.putPan 0 { s.pan 0 with failures := 1 }) (fun t =>
          decide ((t.pan 0).want = .none ∧ t.ice.levels.get 0 = .severe))
      ∧ falls [heat] ∧ falls [{ heat with pan := 1 }, { heat with pan := 2 }] := by decide +kernel

/-- P1 rises for the path with its claim TAKEN, after this many failures, and its timer is at its end. -/
def risingIn (u : PathState) (failures : Nat) : State :=
  let s := carried u false
  let s : State := { s with lines := { roof.lines with breakerClosed := false }
                            path := { s.path with claims := put s.path.claims 0 .taken } }
  s.putPan 0 { roof.pan 0 with
    state := .rising, want := .path, failures := failures, timer := some { kind := .raise, remaining := 0 } }

theorem test_raise_timeouts_act_in_every_path_state :
    let times (s : State) (u : PathState) (w : Want) (h : Hold) (c : Claim) (l : List FaultKind) : Bool :=
      s.jobsRun && after (.raiseTimeout 0) s fun t => decide (t.path.state = u ∧ (t.pan 0).state = .falling
        ∧ (t.pan 0).want = w ∧ (t.pan 0).hold = h ∧ t.path.claims.get 0 = c ∧ t.ifu.faults.map FaultEntry.kind = l)
    let armed (u : PathState) : Bool := times (risingIn u 0) u .path .armed .taken [.raiseTimeout]
    let ended (s : State) (u : PathState) (l : List FaultKind) : Bool := times s u .none .none .ended (.raiseTimeout :: l)
    let other (p : PanId) : Program := { heat with pan := p }
    armed .awaitLine ∧ armed (.coasting .loss) ∧ armed (.changing 1) ∧ armed .selecting
      ∧ ended (risingIn .awaitLine 1) .isolated [.noPanForSystem]
      ∧ ended (withPrograms (risingIn .awaitLine 0) [other 1, other 2]) .isolated [.noPanForSystem]
      ∧ times (withPrograms (risingIn .awaitLine 0) [other 1]) .awaitLine .path .armed .taken [.raiseTimeout]
      ∧ (risingIn .awaitLine 0).heatable (other 1)
      ∧ ended (risingIn .selecting 1) .selecting [] ∧ ended (beside (risingIn .live 1)) .live []
      ∧ ended (beside (risingIn .awaitLine 1)) .closing []
      ∧ !decide (beside (risingIn .awaitLine 1)).unconnected := by decide +kernel

theorem test_a_held_pan_keeps_its_claim_in_down :
    let s := risingIn .awaitLine 1
    let falling : State := s.putPan 0 { s.pan 0 with state := .falling, hold := .armed, timer := none }
    !decide falling.closes ∧ falling.jobsRun = true
      ∧ after (.panInputChange 0 .headDown true) falling (fun t => decide (t.path.state = .awaitLine
          ∧ t.pan 0 = { falling.pan 0 with state := .down } ∧ t.path.claims.get 0 = .held)) := by decide +kernel

theorem test_lowering_and_dips_meet :
    let timed (u : PanState) (k : PanTimerKind) : State := panIn roof 0 u .link (some { kind := k, remaining := 0 })
    let dipped := timed .dipping .dipPulse
    (timed .falling .lower).calm ∧ (timed .dropping .drop).calm ∧ dipped.calm
      ∧ (timed .falling .lower).ifu.escalates .lowerTimeout (.pan 0) = false
      ∧ after (.lowerTimeout 0) (timed .falling .lower) (fun t => decide ((t.pan 0).timer = none
          ∧ t.ifu.faults.map FaultEntry.kind = [.lowerTimeout]))
      ∧ after (.dropTimeout 0) (timed .dropping .drop) (fun t => decide ((t.pan 0).state = .dropping))
      ∧ gives (.lowerTimeout 0) roof roof ∧ gives (.dropTimeout 0) roof roof ∧ gives (.dipPulseEnd 0) roof roof
      ∧ gives (.dipRegainExpiry 0) roof roof
      ∧ after (.dipPulseEnd 0) dipped (fun t =>
          decide ((t.pan 0).timer = some { kind := .dipRegain, remaining := 3000 }))
      ∧ after (.dipPulseEnd 0) (dipped.putPan 0 { dipped.pan 0 with inputs := touching }) (fun t =>
          decide ((t.pan 0).state = .up))
      ∧ after (.dipRegainExpiry 0) (timed .dipping .dipRegain) (fun t => decide ((t.pan 0).state = .falling)) := by
  decide +kernel

theorem test_timers_of_pans_act_in_every_path_state :
    let timed (s : State) (u : PanState) (k : PanTimerKind) : State :=
      panIn s 0 u .path (some { kind := k, remaining := 0 })
    let ends (i : Instr) (s : State) (u : PathState) (v : PanState) : Bool := s.jobsRun && moved i s u v
    let pulse (u : PathState) : State := timed (carried u false) .dipping .dipPulse
    let regain (u : PathState) : State := timed (carried u false) .dipping .dipRegain
    let second : State := { timed (carried (.changing 1) false) .dropping .drop with
      ifu := table [fault .stripBreach (.pan 1) .activeUnack] }
    ends (.lowerTimeout 0) (timed (carried .live true) .falling .lower) .live .falling
      ∧ ends (.dropTimeout 0) (timed (carried (.changing 1) false) .dropping .drop) (.changing 1) .dropping
      ∧ second.ifu.escalates .lowerTimeout (.pan 0) = true ∧ ends (.dropTimeout 0) second .isolated .dropping
      ∧ ends (.dipPulseEnd 0) (pulse .live) .live .up ∧ ends (.dipPulseEnd 0) (pulse .awaitLine) .closing .up
      ∧ ends (.dipPulseEnd 0) (pulse (.changing 1)) (.changing 1) .falling
      ∧ ends (.dipPulseEnd 0) (withPrograms (pulse .live) [{ heat with kind := .scrape }]) .live .up
      ∧ ends (.dipRegainExpiry 0) (beside (regain .live)) .live .falling
      ∧ ends (.dipRegainExpiry 0) (regain .awaitLine) .isolated .falling
      ∧ ends (.dipRegainExpiry 0) (beside (regain .awaitLine)) .closing .falling
      ∧ ends (.dipRegainExpiry 0) (regain (.changing 1)) (.changing 1) .falling
      ∧ ends (.dipRegainExpiry 0) (withPrograms (regain .selecting) [{ heat with kind := .dip, inFlight := true }])
          .selecting .falling := by decide +kernel

/-- P1 in DIPPING under a DIP program with a dip in flight. -/
def dipping (k : PanTimerKind) (i : PanInputs) (dips : Nat) (u : PathState) : State :=
  let s := panIn (pathIn roof u (some 0) none) 0 .dipping .link (some { kind := k, remaining := 0 })
  { s.putPan 0 { s.pan 0 with inputs := i } with ice := { s.ice with
    programs := [{ pan := 0, kind := .dip, state := .running, progress := dips, origin := .link, inFlight := true,
                   wait := none, armed := false }] } }

theorem test_dip_programs_go_on :
    let dips (i : Instr) (s : State) (v : PanState) (l : List (ProgramState × Nat × Bool)) : Bool :=
      decide s.ready && s.jobsRun && after i s fun t => decide ((t.pan 0).state = v
        ∧ t.ice.programs.map (fun g => (g.state, g.progress, g.inFlight)) = l)
    let off : PanInputs := { touching with contact := false }
    let cover (s : State) : State := panUp (s.putPan 1 { s.pan 1 with inForce := serving 0 }) 1
    let ends : Instr := .panInputChange 0 .contact true
    dips (.dipPulseEnd 0) (dipping .dipPulse touching 3 .isolated) .dipping [(.running, 2, true)]
      ∧ dips ends (dipping .dipRegain off 2 .isolated) .dipping [(.running, 1, true)]
      ∧ dips ends (dipping .dipRegain off 1 .isolated) .up []
      ∧ dips (.dipPulseEnd 0) (dipping .dipPulse touching 3 .live) .up [(.waiting, 2, false)]
      ∧ dips ends (cover (dipping .dipRegain off 3 .live)) .dipping [(.running, 2, true)]
      ∧ dips (.dipRegainExpiry 0) (dipping .dipRegain off 3 .isolated) .falling []
      ∧ dips (.lower 1 (.fields 1)) (dipping .dipRegain off 3 .isolated) .falling [(.waiting, 3, false)] := by
  decide +kernel

theorem test_dip_programs_go_on_in_every_path_state :
    let off : PanInputs := { touching with contact := false }
    let cover (s : State) : State := panUp (s.putPan 1 { s.pan 1 with inForce := serving 0 }) 1
    let dark (s : State) : State := { s with lines := { s.lines with selector := none } }
    let goes (i : Instr) (s : State) (u : PathState) (v : PanState) (l : List (ProgramState × Nat)) : Bool :=
      s.jobsRun && after i s fun t => decide (t.path.state = u ∧ (t.pan 0).state = v
        ∧ t.ice.programs.map (fun g => (g.state, g.progress)) = l)
    let pulse (n : Nat) (u : PathState) : State := dipping .dipPulse touching n u
    let regain (u : PathState) : State := dipping .dipRegain off 3 u
    goes (.dipPulseEnd 0) (pulse 3 .selecting) .selecting .dipping [(.running, 2)]
      ∧ goes (.dipPulseEnd 0) (pulse 1 .selecting) .selecting .up []
      ∧ !decide ((dark (pulse 1 .awaitLine)).panMovedTo 0 .up).closes
      ∧ !decide ((dark (pulse 1 .awaitLine)).panMovedTo 0 .up).unconnected
      ∧ goes (.dipPulseEnd 0) (dark (pulse 1 .awaitLine)) .awaitLine .up []
      ∧ goes (.dipPulseEnd 0) (cover (pulse 3 .closing)) .closing .dipping [(.running, 2)]
      ∧ goes (.panInputChange 0 .contact true) (regain (.opening .loss)) (.opening .loss) .dipping [(.running, 2)]
      ∧ goes (.dipRegainExpiry 0) (regain (.coasting .zone)) (.coasting .zone) .falling []
      ∧ goes (.dipRegainExpiry 0) (cover (regain .live)) .live .falling [] := by decide +kernel

/-! ### CHG -/

def connects (s : State) (n : Nat) (r : Result) : Bool :=
  after (.connect 1 (.fields n)) s fun t => decide (replied t = some r)

theorem test_connect_is_checked :
    let apartPans := roof.pans.map fun r => { r with fitted := decide (r.rank = 2) }
    connects (withMode roof .drive none) 1 .mode ∧ connects running 1 .busy ∧ connects roof 0 (.refused .badIndex)
      ∧ connects roof 9 (.refused .badIndex)
      ∧ connects { roof with pans := roof.pans.map fun r => { r with inForce := Profile.idle } } 255 (.refused .noSystem)
      ∧ connects { roof with pans := apartPans } 255 (.ok (.connected 1))
      ∧ connects { roof with path := { roof.path with expected := some 1 } } 255 (.ok (.connected 1))
      ∧ connects roof 8 (.refused .unknownSystem)
      ∧ connects { roof with ifu := { roof.ifu with earthed := true } } 1 (.refused .earthed)
      ∧ connects (panUp roof 1) 1 (.refused .conflict)
      ∧ connects { roof with pans := apartPans } 1 (.refused .noPan)
      ∧ connects { roof with path := { roof.path with lowerZone := true } } 1 (.refused .lowerZone)
      ∧ connects (withMode roof .clamp none) 1 .mode
      ∧ connects { roof with ifu := { roof.ifu with watch := .present false } } 1 (.refused .backfeed) := by decide +kernel

theorem test_connect_meets :
    let aside := { roof with lines := { roof.lines with selector := some 2 } }
    let ranked := panUp roof 2
    let ranked := ranked.putPan 2 { ranked.pan 2 with rank := 2000 }
    let ranked := ranked.putPan 0 { ranked.pan 0 with inForce := serving 1 }
    after (.connect 1 (.fields 1)) roof (fun t => decide (t.path.state = .awaitLine))
      ∧ after (.connect 1 (.fields 1)) aside (fun t =>
          decide (t.path.state = .selecting ∧ t.outputs.commanded.sd = .to 0 ∧ (t.pan 0).state = .rising))
      ∧ State.takenPans aside 0 = [0] ∧ State.claimOrder ranked 1 = [2, 0, 1] ∧ State.takenPans ranked 1 = [2, 0]
      ∧ (roof.pan 0).state = .down ∧ (roof.pan 0).hold = .none ∧ roof.ifu.airLow = false
      ∧ after (.connect 1 (.fields 2)) aside (fun t => decide ((t.pan 1).state = .rising ∧ (t.pan 2).state = .rising
        ∧ t.path.claims = #v[.none, .taken, .taken, .none] ∧ t.pan 0 = aside.pan 0))
      ∧ after (.connect 1 (.fields 2)) (panUp aside 2) (fun t => decide ((t.pan 1).state = .rising
        ∧ (t.pan 1).want = .path ∧ (t.pan 2).state = .up ∧ (t.pan 2).want = .path
        ∧ t.path.claims = #v[.none, .taken, .taken, .none])) := by decide +kernel

/-- The path wants P1 in UP and P2, which holds a retry in DOWN, while P3 is up for the host. -/
def wanted (s : State) : State :=
  let s := panUp (panUp s 0) 2
  let s := (s.putPan 0 { s.pan 0 with want := .path }).putPan 1 { s.pan 1 with want := .path, hold := .awaiting }
  { s with path := { s.path with claims := #v[.taken, .held, .ended, .sent] } }

theorem test_isolate_and_clear_meet :
    let isolating (s : State) (f : State → Bool) : Bool := after (.isolate 1 (.fields ())) s f
    let clearing (s : State) (f : State → Bool) : Bool := after (.clearPath 1 (.fields ())) s f
    let stuck := pathIn roof (.faulted .breakerStuckClosed) (some 0) none
    let openBreaker (s : State) : State := { s with lines := { s.lines with breakerClosed := false } }
    let withdraws (s : State) : Bool := isolating (wanted s) fun t =>
      decide (t.path.state = .isolated ∧ (wanted s).lowersPans t false ∧ (t.pan 0).state = .falling
        ∧ (t.pan 1).hold = .none ∧ (t.pan 2).state = .up ∧ t.path.claims = #v[.none, .none, .ended, .none])
    isolating (withMode roof .drive none) (fun t => decide (replied t = some .mode))
      ∧ isolating roof (fun t => decide (t.path = roof.path))
      ∧ isolating (pathIn roof (.opening .loss) (some 0) none) (fun t => decide (replied t = some .busy))
      ∧ isolating (pathIn roof .selecting (some 0) none) (fun t => decide (t.path.state = .isolated))
      ∧ isolating (pathIn roof (.coasting .loss) (some 0) none) (fun t => decide (t.path.state = .isolated))
      ∧ isolating (pathIn roof (.changing 1) (some 0) none) (fun t => decide (t.path.state = .isolated))
      ∧ isolating running (fun t => decide (t.path.state = .opening .request))
      ∧ isolating (openBreaker running) (fun t => decide (t.path.state = .isolated))
      ∧ clearing roof (fun t => decide (t.path = roof.path))
      ∧ clearing { stuck with lines := { stuck.lines with breakerClosed := true } } (fun t =>
          decide (replied t = some (.refused .stillClosed)))
      ∧ clearing { stuck with lines := { stuck.lines with selector := none } } (fun t =>
          decide (replied t = some (.refused .stillClosed)))
      ∧ clearing stuck (fun t => decide (t.path.state = .isolated))
      ∧ withdraws (pathIn roof .awaitLine (some 0) none) ∧ withdraws (pathIn roof (.changing 1) (some 0) none)
      ∧ withdraws (openBreaker running)
      ∧ isolating (withMode (openBreaker (wanted running)) .safe none) (fun t =>
          decide ((wanted running).lowersPans t true ∧ (t.pan 2).state = .falling ∧ t.path.claims = noClaims))
      ∧ isolating (wanted running) (fun t =>
          decide ((wanted running).keepsPans t ∧ t.path.claims = (wanted running).path.claims)) := by decide +kernel

theorem test_set_auto_and_read_path_meet :
    after (.setAuto 1 (.fields 0)) roof (fun t => decide (t.path.auto = false))
      ∧ after (.setAuto 1 (.fields 2)) roof (fun t => decide (replied t = some (.refused .outOfRange)))
      ∧ after (.setAuto 1 (.fields 1)) (withMode roof .drive none) (fun t => decide (replied t = some .mode))
      ∧ runs (.readPath 1 (.fields ())) running
      ∧ runs (.readPath 1 (.fields ())) (pathIn roof (.opening (.neutral 6000)) (some 0) none)
      ∧ runs (.readPath 1 (.fields ())) (withMode roof .drive none) := by decide +kernel

/-- The breaker's feedback changes, and the path is then in a state. -/
def breaker (s : State) (closed : Bool) (u : PathState) : Bool :=
  after (.breakerFeedbackChange closed) s fun t => decide (t.path.state = u)

theorem test_breaker_feedback_meets :
    let opening (r : OpeningReason) : State := pathIn running (.opening r) (some 0) none
    let dead (s : State) : State := { s with sense := { s.sense with record := .dead } }
    roof.steady ∧ runs (.breakerFeedbackChange true) loading
      ∧ breaker (pathIn running .closing (some 0) none) true .live ∧ breaker roof true .isolated
      ∧ breaker running false .isolated ∧ breaker (opening .request) false .isolated
      ∧ breaker (withMode (opening .loss) .safe none) false .isolated
      ∧ breaker (opening (.neutral 5000)) false .closing
      ∧ breaker (opening (.neutral 5001)) false (.coasting (.neutral 5001)) ∧ breaker (opening .loss) false .closing
      ∧ breaker (dead (opening .loss)) false (.coasting .loss) ∧ breaker (opening .lowerZone) false .closing
      ∧ (opening (.change 1)).allDown = false ∧ breaker (opening (.change 1)) false (.changing 1)
      ∧ breaker { opening .lowerZone with path := { (opening .lowerZone).path with lowerZone := true } } false
          (.coasting .zone)
      ∧ breaker (pathIn roof (.faulted .breakerStuckClosed) (some 0) none) false (.faulted .breakerStuckClosed) := by
  decide +kernel

/-- The selector's feedback changes, and the path is then in a state. -/
def selector (s : State) (position : Option Position) (u : PathState) : Bool :=
  after (.selectorFeedbackChange position) s fun t => decide (t.path.state = u)

theorem test_selector_feedback_meets :
    let selecting := pathIn roof .selecting (some 0) none
    let claimed := { selecting with path := { selecting.path with claims := put selecting.path.claims 0 .taken } }
    runs (.selectorFeedbackChange none) loading ∧ selector roof (some 1) .isolated
      ∧ selector selecting (some 1) .selecting ∧ selector running (some 0) .live
      ∧ selector claimed (some 0) .awaitLine ∧ (claimed.path.claims.get 0).isLive = true
      ∧ claimed.sense.record = .dead ∧ selector running none (.faulted .selectorLeftPosition)
      ∧ selector (pathIn running .closing (some 0) none) (some 2) (.faulted .selectorLeftPosition)
      ∧ (∀ u ∈ [PathState.awaitLine, .coasting .loss, .coasting (.neutral 5000)],
          selector (pathIn (neutralCoast 0 none) u (some 0) none) (some 0) .closing
            ∧ selector (pathIn (neutralCoast 0 none) u (some 0) none) (some 1) u)
      ∧ selector (neutralCoast 5001 none) (some 0) (.coasting (.neutral 5001))
      ∧ selector (pathIn (neutralCoast 0 none) .selecting (some 0) none) (some 0) .closing
      ∧ selector selecting (some 0) .isolated
      ∧ after (.selectorFeedbackChange (some 0)) selecting (fun t =>
          decide (t.ifu.faults.map FaultEntry.kind = [.noPanForSystem]))
      ∧ selector (pathIn running (.coasting .zone) (some 0) none) none (.coasting .zone)
      ∧ selector (pathIn running (.opening .loss) (some 0) none) none (.opening .loss) := by decide +kernel

theorem test_path_timers_meet :
    let timed (u : PathState) (k : PathTimerKind) : State := pathIn running u (some 0) (some { kind := k, remaining := 0 })
    let expires (i : Instr) (u : PathState) (k : PathTimerKind) (new : PathState) : Bool :=
      decide ((timed u k).path.state.timerKind = some k) && after i (timed u k) (fun t => decide (t.path.state = new))
        && gives i roof roof && runs i loading
    expires .selectorMoveTimeout .selecting .selector (.faulted .selectorNoArrival)
      ∧ expires .openFeedbackTimeout (.opening .request) .openFeedback (.faulted .breakerStuckClosed)
      ∧ expires .closeFeedbackTimeout .closing .close .isolated
      ∧ expires .awaitLineLimitExpiry .awaitLine .awaitLine .isolated
      ∧ expires .lossCoastLimitExpiry (.coasting .loss) .lossCoast .isolated := by decide +kernel

/-- An announcement that is due at once is handed to CHG, and the path and P1 are then in these states. -/
def told (s : State) (f : AnnounceFields) (u : PathState) (v : PanState) : Bool :=
  decide s.ready && s.jobsRun && after (.announce 1 (.fields f)) s fun t =>
    decide (t.path.state = u ∧ (t.pan 0).state = v)

/-- The path in a state onto S1, with P1 up for it and the breaker open. -/
def onto (u : PathState) : State :=
  let s := pathIn (panUp roof 0) u (some 0) none
  s.putPan 0 { s.pan 0 with want := .path }

def switched (s : State) (auto closed : Bool) : State :=
  { s with path := { s.path with auto := auto }, lines := { s.lines with breakerClosed := closed } }

theorem test_system_ahead_meets :
    let ahead : AnnounceFields := ⟨1, some 2, 20⟩
    told roof ahead .isolated .down ∧ told (onto .live) ⟨1, some 1, 20⟩ .live .up
      ∧ told (onto .awaitLine) ahead (.changing 1) .falling
      ∧ told (switched (onto (.coasting .loss)) false false) ahead .isolated .falling
      ∧ told (switched (onto .live) true true) ahead (.opening (.change 1)) .up
      ∧ told (onto .closing) ahead (.changing 1) .falling
      ∧ told (switched (onto .live) false true) ahead (.opening .request) .up
      ∧ told (switched (onto .live) false false) ahead .isolated .falling
      ∧ told (switched (onto (.opening .loss)) true true) ahead (.opening (.change 1)) .up
      ∧ told (switched (onto (.opening .earth)) true true) ahead (.opening .earth) .up
      ∧ told (switched (onto (.opening .pan)) false true) ahead (.opening .request) .up
      ∧ told (onto (.changing 2)) ahead (.changing 1) .falling
      ∧ told (onto (.faulted .breakerStuckClosed)) ahead (.faulted .breakerStuckClosed) .up := by decide +kernel

theorem test_announcements_meet_programs :
    let scraping := withPrograms (onto .live) [{ heat with kind := .scrape }]
    let scraping := { scraping.putPan 0 { scraping.pan 0 with ice := 30 } with lines := running.lines }
    let dips := withPrograms (onto (.coasting .loss)) [{ heat with kind := .dip }]
    let heats := withPrograms (onto .awaitLine) [heat]
    told scraping ⟨1, some 2, 20⟩ (.opening (.change 1)) .up
      ∧ after (.announce 1 (.fields ⟨1, some 2, 20⟩)) scraping (fun t => decide ((t.pan 0).ice = 0))
      ∧ told dips ⟨3, none, 20⟩ (.coasting .zone) .falling ∧ told heats ⟨1, some 2, 20⟩ (.changing 1) .falling
      ∧ told dips ⟨5, none, 0⟩ (.coasting .loss) .up := by decide +kernel

/-- P1 in DOWN with a hold and a pending profile, which serves the next target S1. -/
def heldPending : State :=
  let s := pathIn roof .selecting (some 1) none
  let s := s.putPan 0 { s.pan 0 with hold := .armed, want := .link }
  panUp { s with store := { s.store with
    marks := put s.store.marks 0 true, status := put s.store.status 0 .inProgress } } 1

theorem test_changing_lowers_a_pending_pan_with_a_hold :
    after (.announce 1 (.fields ⟨1, some 1, 0⟩)) heldPending (fun t => decide ((t.pan 0).hold = .none
      ∧ (t.pan 0).want = .none ∧ (t.pan 1).state = .falling ∧ t.path.state = .changing 0)) := by decide +kernel

theorem test_zones_and_neutrals_ahead_meet :
    let lowering (s : State) : State := { s with store := { s.store with
      descriptors := put s.store.descriptors 0 (some { supply 0 with neutral := .lowerPans }) } }
    let zoned (s : State) : State := { s with path := { s.path with lowerZone := true } }
    let neutral : AnnounceFields := ⟨2, some 100, 10⟩
    let zone : AnnounceFields := ⟨3, none, 20⟩
    let zoneEnd : AnnounceFields := ⟨4, none, 20⟩
    told (switched (onto .live) true true) neutral (.opening (.neutral 5130)) .up
      ∧ told (onto .closing) neutral (.coasting (.neutral 5130)) .up
      ∧ told (switched (lowering (onto .live)) true true) neutral (.opening .lowerZone) .up
      ∧ told (lowering (onto .live)) neutral (.coasting .zone) .falling
      ∧ told (onto .selecting) neutral .selecting .up ∧ told (onto .isolated) zone .isolated .falling
      ∧ told (onto (.changing 1)) zone (.changing 1) .falling ∧ told (onto .awaitLine) zone (.coasting .zone) .falling
      ∧ told (switched (onto (.opening .loss)) true true) zone (.opening .lowerZone) .falling
      ∧ told (switched (onto (.opening .request)) true true) zone (.opening .request) .falling
      ∧ told (switched (onto .live) true true) zone (.opening .lowerZone) .up
      ∧ told (onto .live) zone (.coasting .zone) .falling
      ∧ told (zoned (onto .live)) zoneEnd .live .up
      ∧ told (zoned (pathIn roof (.coasting .zone) (some 0) none)) zoneEnd .awaitLine .rising
      ∧ told (zoned (pathIn { roof with lines := { roof.lines with selector := none } } (.coasting .zone) (some 0) none))
          zoneEnd .selecting .rising
      ∧ told running ⟨5, none, 0⟩ .live .up ∧ told running ⟨6, none, 0⟩ .live .up := by decide +kernel

/-- The reports that a command posts into an empty queue, under the choices `n` of the next notice. -/
def reportsIn (i : Instr) (s : State) (n : Nat) : List Report :=
  match exec i { s with order := n, link := { Link.reset with holding := false } } with
  | .next t => t.link.entries.filterMap fun e => match e with
    | .report r => some r
    | .reply _ => none
  | _ => []

/-- Where CHG takes SAFE first, PAN takes the lower of the path ahead of its own SAFE entry; else the path lowers nothing. -/
theorem test_lowers_of_a_safe_entry_reach_pan_first :
    let causes (n : Nat) : List PanCause := (reportsIn (.outputMode 1 (.fields 2)) (onto .awaitLine) n).filterMap fun r =>
      match r with
      | .panState r => some r.cause
      | _ => none
    causes 0 = [.safe] ∧ causes 1 = [.path, .safe] ∧ causes 4 = [.path, .safe] := by decide +kernel

/-- The end of a SCRAPE whose pan has left UP is evaluated under the budget that ICE was told of: the HEAT of another
zone pauses only at AOS's or CHG's own notice, with its own reports. -/
theorem test_budgets_follow_the_notices :
    let s := withPrograms running [heat, { heat with pan := 1, kind := .scrape }]
    let on := { s.ice.zones.get 0 with state := .on, demand := .program }
    let s := panUp { s with ice := { s.ice with budget := 30, zones := put s.ice.zones 0 on } } 1
    let programs (n : Nat) : List (ProgramKind × ProgramState) :=
      (reportsIn (.outputMode 1 (.fields 2)) s n).filterMap fun r =>
        match r with
        | .iceProgram r => some (r.program.kind, r.program.state)
        | _ => none
    let scrapeFirst := [(ProgramKind.scrape, ProgramState.running), (.heat, .paused)]
    let heatFirst := [(ProgramKind.heat, ProgramState.paused), (.scrape, .running)]
    programs 0 = heatFirst ∧ programs 72 = scrapeFirst := by decide +kernel

/-- P1 lands as the last pan of a CHANGING, and P1 and P2 are then in these states, with the path in that. -/
def lands (s : State) (u : PathState) (v w : PanState) : Bool :=
  after (.panInputChange 0 .headDown true) s fun t =>
    decide (t.path.state = u ∧ (t.pan 0).state = v ∧ (t.pan 1).state = w)

/-- The path changes to a system, and P1 falls. -/
def changingTo (n : SysId) : State := panIn (pathIn roof (.changing n) (some 0) none) 0 .falling .link none

theorem test_the_all_down_point_meets :
    let away := { changingTo 1 with lines := { roof.lines with selector := some 2 } }
    let zoned := { changingTo 1 with path := { (changingTo 1).path with lowerZone := true } }
    let pending := { changingTo 1 with store := { roof.store with
      active := put roof.store.active 0 (serving 1), marks := put roof.store.marks 0 true
      status := put roof.store.status 0 .inProgress } }
    (changingTo 1).jobsRun = true ∧ (changingTo 1).ice.programs = [] ∧ ((changingTo 1).pan 0).inputs.headUp = false
      ∧ (∀ q, q ≠ 0 → ((changingTo 1).pan q).state = .down) ∧ (changingTo 1).ifu.faults = []
      ∧ lands (changingTo 2) .isolated .down .down ∧ lands zoned (.coasting .zone) .down .down
      ∧ lands away .selecting .down .rising ∧ lands (changingTo 0) .awaitLine .rising .down
      ∧ lands { pending with lines := away.lines } .selecting .rising .rising := by decide +kernel

/-- A window at which the record steps, and the path is then in a state with P1 in that. -/
def windowed (s : State) (r : LineRecord) (samples : Vector Int 80) (u : PathState) (v : PanState) : Bool :=
  let t := { s with
    store := { s.store with descriptors := (sensing r).store.descriptors }, sense := (sensing r).sense }
  t.jobsRun && decide (t.ice.programs = []) && after (.windowCompletion samples) t fun t =>
    decide (t.path.state = u ∧ (t.pan 0).state = v)

theorem test_recognition_meets :
    let found : LineRecord := .acquiring (some 0) 4
    let lost : LineRecord := .suspect 0 0 2
    windowed (onto .awaitLine) found (flat 25000) .closing .up
      ∧ windowed (switched (onto .awaitLine) true true) found (flat 25000) .live .up
      ∧ windowed (onto (.coasting (.neutral 5000))) found (flat 25000) .closing .up
      ∧ windowed (onto (.coasting (.neutral 5001))) found (flat 25000) (.coasting (.neutral 5001)) .up
      ∧ windowed (onto (.coasting .loss)) (.suspect 0 1 0) (flat 25000) .closing .up
      ∧ windowed roof found (flat 25000) .isolated .down
      ∧ windowed (pathIn (onto .awaitLine) .awaitLine (some 1) none) found (flat 25000) .isolated .falling
      ∧ windowed (switched (onto .live) true true) lost (flat 0) (.opening .loss) .up
      ∧ windowed (onto .live) lost (flat 0) (.coasting .loss) .up
      ∧ windowed (onto .selecting) lost (flat 0) .selecting .up
      ∧ windowed (onto .live) (.recognized 0) (flat 25000) .live .up := by decide +kernel

/-! ### ICE -/

theorem test_evaluations_meet :
    roof.heaterBudget = 20 ∧ running.heaterBudget = 30 ∧ (withMode roof .drive (some 5)).heaterBudget = 0
      ∧ (let zones := roof.ice.zones.map fun z => { z with demand := if z.fitted then .forced else .none }
         let new := allocate 20 zones
         (∀ j : ZoneId, j ∈ ([0] : List ZoneId) ↔ ((zones.get j).priority < (zones.get 1).priority
             ∨ ((zones.get j).priority = (zones.get 1).priority ∧ j.val < 1)) ∧ j.val < 3)
           ∧ (new.get 0).state = .on ∧ (new.get 1).state = .waiting ∧ (new.get 2).state = .waiting) := by
  refine ⟨by decide +kernel, by decide +kernel, by decide +kernel, ?_⟩
  decide +kernel

/-- The contactor of Z1 stands closed without a command. -/
def disagreeing : State :=
  { roof with ice := { roof.ice with
      zones := put roof.ice.zones 0 { roof.ice.zones.get 0 with feedback := true, check := .running 0 } } }

theorem test_zone_mode_and_level_meet :
    let zoneMode (s : State) (z m : Nat) (f : State → Bool) : Bool := after (.zoneMode 1 (.fields ⟨z, m⟩)) s f
    let iceLevel (s : State) (p l : Nat) (f : State → Bool) : Bool := after (.iceLevel 1 (.fields ⟨p, l⟩)) s f
    let refused (r : Result) (t : State) : Bool := decide (replied t = some r)
    zoneMode (withMode roof .drive none) 1 2 (refused .mode) ∧ zoneMode roof 0 2 (refused (.refused .badZone))
      ∧ zoneMode roof 13 2 (refused (.refused .badZone)) ∧ zoneMode roof 1 3 (refused (.refused .outOfRange))
      ∧ zoneMode roof 12 2 (refused (.refused .unfitted)) ∧ ZoneMode.all[2]? = some .forced
      ∧ zoneMode roof 1 2 (refused (.ok (.zone .forced .on)))
      ∧ iceLevel (withMode roof .drive none) 1 2 (refused .mode) ∧ iceLevel roof 5 2 (refused (.refused .badPan))
      ∧ iceLevel roof 1 4 (refused (.refused .outOfRange)) ∧ IceLevel.all[0]? = some .clear
      ∧ IceLevel.all[3]? = some .severe ∧ iceLevel roof 1 0 (refused (.ok (.level .clear .clear)))
      ∧ roof.outputs.commanded.hz = roof.ice.zones.map (fun z => decide (z.state = .on))
      ∧ iceLevel roof 1 3 (fun t => decide (t.ice.levels.get 0 = .severe ∧ (t.ice.zones.get 0).state = .on
          ∧ State.evaluates { roof with ice := { roof.ice with levels := put roof.ice.levels 0 .severe } } t))
      ∧ zoneMode disagreeing 1 2 (fun t => decide ((t.ice.zones.get 0).mode = .forced)) := by
  decide +kernel

def starting (s : State) (p k : Nat) (f : State → Bool) : Bool := after (.startProgram 1 (.fields ⟨p, k⟩)) s f

theorem test_programs_are_checked :
    let refused (r : Result) (t : State) : Bool := decide (replied t = some r)
    let policy (h : HeaterPolicy) (s : State) : State := s.putPan 0 { s.pan 0 with inForce := { serving 0 with policy := h } }
    let head (z : Zone) : State := { roof with ice := { roof.ice with zones := put roof.ice.zones 0 z } }
    let z := roof.ice.zones.get 0
    starting (withMode roof .safe none) 1 0 (refused .mode) ∧ starting roof 5 0 (refused (.refused .badPan))
      ∧ starting roof 1 3 (refused (.refused .badKind)) ∧ ProgramKind.all[2]? = some .scrape
      ∧ starting roof 4 0 (refused (.refused .unfitted)) ∧ starting (withPrograms roof [heat]) 1 0 (refused .busy)
      ∧ starting (withPrograms roof [heat, { heat with pan := 1 }]) 3 0 (refused .full)
      ∧ starting (policy .off roof) 1 0 (refused (.refused .policyOff)) ∧ starting roof 3 0 (refused (.refused .noZone))
      ∧ starting (head { z with state := .faulted }) 1 0 (refused (.refused .zoneFault))
      ∧ starting (head { z with mode := .off }) 1 0 (refused (.refused .zoneOff))
      ∧ starting roof 1 1 (refused (.refused .notUp))
      ∧ starting { panUp roof 0 with ice := { roof.ice with permit := false } } 1 2 (refused (.refused .noPermit)) := by
  decide +kernel

theorem test_programs_meet :
    starting roof 1 0 (fun t => decide (t.ice.programs = [{ heat with progress := 60000 }]))
      ∧ starting (panUp roof 0) 1 1 (fun t => decide ((t.pan 0).state = .dipping
          ∧ t.ice.programs.map Program.inFlight = [true]
          ∧ replied t = some (.ok (.program { heat with kind := .dip, progress := 3 }))))
      ∧ starting running 1 1 (fun t => decide (t.ice.programs.map Program.state = [.waiting]))
      ∧ starting running 1 2 (fun t => decide ((t.pan 0).ice = 30))
      ∧ starting (panUp roof 0) 1 2 (fun t => decide (t.ice.programs.map Program.state = [.paused]))
      ∧ (withPrograms roof [heat]).ice.programs = [] ++ heat :: []
      ∧ after (.stopProgram 1 (.fields 1)) (withPrograms roof [heat]) (fun t => decide (t.ice.programs = []))
      ∧ after (.stopProgram 1 (.fields 1)) (withPrograms (roof.putPan 0 { roof.pan 0 with hold := .armed, want := .link })
          [{ heat with armed := true }]) (fun t => decide ((t.pan 0).hold = .none))
      ∧ after (.stopProgram 1 (.fields 1)) roof (fun t => decide (replied t = some (.refused .noProgram)))
      ∧ after (.stopProgram 1 (.fields 0)) roof (fun t => decide (replied t = some (.refused .badPan)))
      ∧ after (.stopProgram 1 (.fields 1)) (withMode roof .drive none) (fun t => decide (replied t = some .mode))
      ∧ after (.stopProgram 1 (.fields 1)) (withPrograms (panUp roof 0) [{ heat with kind := .scrape }]) (fun t =>
          decide ((t.pan 0).ice = 0 ∧ (t.cqm.records.get 0).scrape = false)) := by decide +kernel

theorem test_programs_stop_whatever_the_path :
    let scrape : Program := { heat with kind := .scrape, progress := 7 }
    let live := withPrograms (running.putPan 0 { running.pan 0 with ice := 30 }) [scrape]
    let second (k : ProgramKind) : Program := { heat with pan := 1, kind := k, state := .paused }
    let stops (s : State) (f : State → Bool) : Bool := s.ready && !s.held && after (.stopProgram 1 (.fields 1)) s f
    stops live (fun t => decide (t.ice.programs = [] ∧ t.pan 0 = { live.pan 0 with ice := 0 } ∧ t.path = live.path
        ∧ t.outputs.commanded.rv.get 0 = some 70))
      ∧ stops (withPrograms live [second .scrape, scrape]) (fun t => decide (t.ice.programs = [second .scrape]))
      ∧ stops (withPrograms live [scrape, second .dip]) (fun t => decide (t.ice.programs = [second .dip]))
      ∧ stops (withPrograms roof [heat, second .heat]) (fun t =>
          decide (t.ice.programs = [{ second .heat with state := .running }]))
      ∧ stops (withPrograms (carried .awaitLine false) [{ scrape with state := .paused }]) (fun t =>
          decide (t.path = (carried .awaitLine false).path ∧ t.cqm = roof.cqm))
      ∧ stops (withPrograms (running.putPan 0 { running.pan 0 with hold := .armed }) [{ scrape with armed := true }])
          (fun t => decide ((t.pan 0).hold = .none ∧ t.path.state = .live)) := by decide +kernel

theorem test_programs_join_the_end :
    let kinds (t : State) : List (PanId × ProgramKind) := t.ice.programs.map fun g => (g.pan, g.kind)
    let second (k : ProgramKind) : Program := { heat with pan := 1, kind := k }
    let starts (g : Program) (k : Nat) (l : List (PanId × ProgramKind)) : Bool :=
      starting (withPrograms (panUp roof 0) [g]) 1 k fun t => decide (kinds t = l)
    starts (second .scrape) 1 [(1, .scrape), (0, .dip)] ∧ starts (second .scrape) 0 [(1, .scrape), (0, .heat)]
      ∧ starts (second .dip) 2 [(1, .dip), (0, .scrape)] ∧ starts (second .heat) 0 [(1, .heat), (0, .heat)]
      ∧ roof.ice.headZone 1 = some 1 ∧ (roof.ice.zones.get 1).state ≠ .faulted ∧ (roof.ice.zones.get 1).mode ≠ .off
      ∧ (roof.pan 1).inForce.policy ≠ .off
      ∧ starting (withPrograms roof [second .heat]) 1 0 (fun t => decide (t.ice.programs.map Program.state
          = [.paused, .running])) := by decide +kernel

theorem test_scrapes_meet :
    let scrape (n : Nat) (u : ProgramState) : State := withPrograms running [{ heat with
      kind := .scrape, state := u, progress := n }]
    let pulses (s : State) (f : State → Bool) : Bool :=
      s.jobsRun && decide (s.marker.queue = []) && after .wheelPulse s f
    let left (n : Nat) (t : State) : Bool := decide (t.ice.programs.map Program.progress = [n])
    pulses (scrape 7 .running) (left 6) ∧ pulses (scrape 7 .paused) (left 7)
      ∧ pulses (scrape 1 .running) (fun t => decide (t.ice.programs = [] ∧ (t.pan 0).ice = 0
          ∧ (t.cqm.records.get 0).scrape = false))
      ∧ pulses { scrape 7 .running with marker := { roof.marker with perPulse := 40 } } (left 7)
      ∧ (∀ g ∈ (scrape 7 .running).ice.programs, g.kind ≠ .heat ∧ g.armed = false)
      ∧ after (.announce 1 (.fields ⟨6, none, 0⟩)) (scrape 7 .running) (fun t =>
          decide (t.ice.permit = false ∧ t.ice.programs = []))
      ∧ after (.announce 1 (.fields ⟨5, none, 20⟩)) { scrape 7 .paused with ice := { (scrape 7 .paused).ice with
            permit := false } } (fun t => decide (t.ice.permit = true) && left 7 t) := by decide +kernel

/-- A paused scrape of P1 with the path in a state other than LIVE, before a wheel pulse of a metre. -/
def pausedScrape (u : PathState) : State :=
  let s := pathIn running u (some 0) none
  withPrograms { s with lines := { s.lines with breakerClosed := false } }
    [{ heat with kind := .scrape, state := .paused, progress := 7 }]

theorem test_paused_scrapes_count_nothing :
    let kept (u : PathState) : Bool := (pausedScrape u).jobsRun && decide ((pausedScrape u).marker.queue = [])
      && after .wheelPulse (pausedScrape u) fun t => decide (t.ice.programs.map Program.progress = [7])
    kept .isolated ∧ kept .awaitLine ∧ kept (.coasting (.neutral 5002)) ∧ kept (.coasting (.neutral 5001))
      ∧ kept (.coasting (.neutral 4801)) ∧ (pausedScrape (.coasting (.neutral 5001))).closing.holds = true
      ∧ (∀ q, ((pausedScrape .isolated).cqm.records.get q).state = .idle) := by decide +kernel

theorem test_ice_inputs_meet :
    after (.temperatureSample 601) roof (fun t => decide (t.ice.temperature = 600))
      ∧ after (.temperatureSample (-501)) roof (fun t => decide (t.ice.temperature = -500))
      ∧ runs (.temperatureSample 0) loading ∧ runs (.precipitationChange true) loading
      ∧ after (.precipitationChange true) roof (fun t => decide ((t.ice.zones.get 0).state = .on
          ∧ State.evaluates { roof with ice := { roof.ice with wet := true } } t))
      ∧ runs (.heaterFeedbackChange 0 true) loading ∧ runs (.heaterFeedbackChange 11 true) roof
      ∧ after (.heaterFeedbackChange 0 true) roof (fun t => decide ((t.ice.zones.get 0).check = .running 500))
      ∧ after (.heaterFeedbackChange 0 false) roof (fun t => decide ((t.ice.zones.get 0).check = .agree)) := by
  decide +kernel

theorem test_ice_timers_meet :
    let armed := panIn roof 0 .down .link none
    let waiting : Program :=
      { heat with kind := .dip, state := .waiting, progress := 3, wait := some 0 }
    (disagreeing.ice.zones.get 0).check = .running 0 ∧ gives (.feedbackCheckExpiry 0) roof roof
      ∧ after (.feedbackCheckExpiry 0) disagreeing (fun t => decide ((t.ice.zones.get 0).state = .faulted))
      ∧ gives (.heatComplete 0) roof roof ∧ gives (.dipWaitExpiry 0) roof roof
      ∧ (withPrograms roof [heat]).path.state = .isolated ∧ (withPrograms roof [heat]).jobsRun = true
      ∧ after (.heatComplete 0) (withPrograms roof [heat]) (fun t => decide (t.ice.programs = []))
      ∧ after (.heatComplete 0) (withPrograms (armed.putPan 0 { armed.pan 0 with hold := .armed })
          [{ heat with armed := true }]) (fun t => decide ((t.pan 0).state = .rising))
      ∧ after (.dipWaitExpiry 0) (withPrograms roof [waiting]) (fun t => decide (t.ice.programs = [])) := by
  decide +kernel

theorem test_heats_complete_in_every_path_state :
    let second : Program := { heat with pan := 1, state := .paused }
    let retry (u : PathState) (v : PanState) (w : Want) : State :=
      let s := carried u false
      let s : State := { s with lines := roof.lines, path := { s.path with claims := put s.path.claims 0 .held } }
      withPrograms (s.putPan 0 { roof.pan 0 with state := v, want := w, hold := .armed }) [{ heat with armed := true }]
    let completes (s : State) (u : PathState) (v : PanState) (w : Want) (c : Claim) (n : Nat) : Bool :=
      s.jobsRun && after (.heatComplete 0) s fun t => decide (t.path.state = u ∧ (t.pan 0).state = v
        ∧ (t.pan 0).want = w ∧ t.path.claims.get 0 = c ∧ t.ice.levels.get 0 = .clear ∧ t.ice.programs.length = n)
    let deaf (s : State) : State := { s with ifu := { s.ifu with earthed := true } }
    completes (withPrograms running [second, heat]) .live .up .link .none 1
      ∧ completes (withPrograms (carried (.coasting .loss) false) [heat, second]) (.coasting .loss) .up .path .none 1
      ∧ roof.heatable second ∧ (roof.listed [second]).map Program.state = [.paused]
      ∧ completes (retry .awaitLine .down .path) .awaitLine .rising .path .taken 0
      ∧ completes (retry (.coasting .loss) .down .path) (.coasting .loss) .rising .path .taken 0
      ∧ completes (retry (.changing 1) .down .path) (.changing 1) .falling .path .taken 0
      ∧ completes (retry .live .down .path) .live .rising .path .taken 0
      ∧ completes (beside (retry .live .down .path)) .live .down .none (.refused (.because .limit)) 0
      ∧ completes (retry .awaitLine .falling .path) .isolated .falling .none (.refused .busy) 0
      ∧ completes (beside (deaf (retry .selecting .down .path))) .selecting .down .none (.refused (.because .earthed)) 0
      ∧ completes (retry .awaitLine .down .link) .awaitLine .rising .link .held 0 := by decide +kernel

theorem test_dip_waits_expire_in_every_path_state :
    let waiting : Program := { heat with kind := .dip, state := .waiting, progress := 3, wait := some 0 }
    let ends (s : State) (l : List Program) : Bool := s.jobsRun && after (.dipWaitExpiry 0) s fun t =>
      decide (t.ice.programs = l ∧ t.path = s.path ∧ t.pans = s.pans)
    let scrape : Program := { heat with pan := 1, kind := .scrape }
    ends (withPrograms running [waiting]) [] ∧ ends (withPrograms (carried .awaitLine false) [scrape, waiting]) [scrape]
      ∧ ends (withPrograms (carried (.changing 1) false) [waiting]) []
      ∧ ends (withPrograms running [waiting, { heat with pan := 1, state := .paused }])
          [{ heat with pan := 1, state := .running }] := by decide +kernel

/-! ### CQM -/

def measuring (u : QualityState) (f : QualityRecord → QualityRecord) : State :=
  let s := panUp roof 0
  { s with cqm := { s.cqm with gate := .running, records := put s.cqm.records 0
                                                              (f { QualityRecord.reset with state := u, elapsed := some 0 }) } }

theorem test_quality_requests_meet :
    let held := withMode roof .drive none
    let result (i : Instr) (s : State) (r : Result) : Bool := after i s fun t => decide (replied t = some r)
    result (.gate 1 (.fields 0)) held .mode ∧ result (.resetCounts 1 (.fields ())) held .mode
      ∧ result (.qualitySetup 1 (.fields ⟨1, 0, 6, 1⟩)) held .mode ∧ result (.injectArc 1 (.fields 1)) held .mode
      ∧ result (.gate 1 (.fields 2)) roof (.refused .outOfRange) ∧ result (.gate 1 (.fields 0)) roof (.ok (.gate .running))
      ∧ result (.gate 1 (.fields 1)) roof (.ok (.gate .frozen))
      ∧ after (.gate 1 (.fields 1)) (measuring .steady id) (fun t => decide (t.link.reports = 1))
      ∧ result (.resetCounts 1 (.fields ())) roof (.ok .nothing)
      ∧ result (.qualitySetup 1 (.fields ⟨2, 0, 6, 1⟩)) roof (.refused .outOfRange)
      ∧ result (.qualitySetup 1 (.fields ⟨1, 0, 251, 1⟩)) roof (.refused .outOfRange)
      ∧ result (.qualitySetup 1 (.fields ⟨1, 0, 2, 2⟩)) roof (.refused .fieldMismatch)
      ∧ result (.qualitySetup 1 (.fields ⟨5, 1, 250, 249⟩)) roof (.ok (.qualitySetup .five false 250 249))
      ∧ result (.injectArc 1 (.fields 0)) roof (.refused .badPan)
      ∧ result (.injectArc 1 (.fields 1)) roof (.refused .notMeasuring)
      ∧ result (.injectArc 1 (.fields 1)) (measuring .steady id) (.ok .nothing)
      ∧ result (.injectArc 1 (.fields 1)) (measuring .steady fun r => { r with inject := true }) .busy := by
  decide +kernel

theorem test_quality_events_meet :
    after (.arcSample true) (measuring .steady id) (fun t => decide ((t.cqm.records.get 0).arcs = 1))
      ∧ after (.arcSample true) loading (fun t => t.lines.arcPulse)
      ∧ gives .reportPeriodEnd roof roof
      ∧ after .reportPeriodEnd (measuring .steady id) (fun t => decide (t.link.reports = 1))
      ∧ gives (.qualityWindowEnd 0) roof roof
      ∧ after (.qualityWindowEnd 0) (measuring .settling id) (fun t => decide ((t.cqm.records.get 0).settle = 1))
      ∧ after (.qualityWindowEnd 0) (measuring .settling fun r => { r with settle := 3 }) (fun t =>
          decide ((t.cqm.records.get 0).state = .steady))
      ∧ after (.qualityWindowEnd 0) (measuring .steady fun r => { r with arcs := 6 }) (fun t =>
          decide ((t.cqm.records.get 0).state = .disturbed ∧ (t.pan 0).quality = 10 ∧ t.ice.levels.get 0 = .light))
      ∧ after (.qualityWindowEnd 0) (measuring .disturbed fun r => { r with clean := 4 }) (fun t =>
          decide ((t.cqm.records.get 0).state = .steady)) := by decide +kernel

/-! ### IFU -/

def timeouts : List FaultEntry := allZones.map fun z => fault .heaterFeedback (.zone z) .activeUnack

def sixteen (t : FaultState) : List FaultEntry :=
  timeouts ++ [fault .raiseTimeout (.pan 0) t] ++ ([1, 2, 3] : List PanId).map fun p => fault .raiseTimeout (.pan p) .activeAck

theorem test_raises_meet :
    let raised (l : List FaultEntry) (k : FaultKind) (j : Subject) : List FaultEntry := ((table l).raise k j 9).ifu.faults
    raised [] .selectorTimeout .path
        = [{ kind := .selectorTimeout, subject := .path, state := .activeUnack, occurrences := 1, first := 9, last := 9 }]
      ∧ raised [fault .linkBreak .none .activeAck] .linkBreak .none = []
      ∧ (raised [fault .raiseTimeout (.pan 0) .clearedUnack] .raiseTimeout (.pan 0)).map FaultEntry.occurrences = [2]
      ∧ (sixteen .activeUnack).length = 16
      ∧ ((table (sixteen .activeUnack)).raise .lowerTimeout (.pan 0) 9).ifu.overflow = 1
      ∧ (raised (sixteen .clearedUnack) .lowerTimeout (.pan 0)).length = 16
      ∧ ¬fault .raiseTimeout (.pan 0) .clearedUnack ∈ raised (sixteen .clearedUnack) .lowerTimeout (.pan 0)
      ∧ FaultKind.momentary .linkBreak = true ∧ FaultKind.momentary .selectorTimeout = false
      ∧ FaultKind.severity .roofBackfeed = .trip ∧ FaultKind.severity .driveExitExpired = .note
      ∧ FaultKind.fits .heaterFeedback (.zone 11) = true ∧ FaultKind.fits .heaterFeedback (.pan 0) = false
      ∧ FaultKind.fits .roofBackfeed .none = true ∧ FaultKind.fits .linkBreak .path = false := by decide +kernel

theorem test_fault_reports_meet :
    let sys (l : List FaultEntry) : Sys := { st := { roof with ifu := table l }, todo := [] }
    ((sys [fault .stripBreach (.pan 1) .activeAck]).takeRaised .linkBreak .none).todo.length = 1
      ∧ ((sys []).takeRaised .linkBreak .none).todo.length = 0
      ∧ (let told : Told := { path := running.path, mode := .safe }
         ({ sys [] with told := told }.takeRaised .linkBreak .none).told = told)
      ∧ ((sys []).takeEnded .selectorTimeout .path).st = (sys []).st
      ∧ ((sys [fault .selectorTimeout .path .clearedUnack]).takeEnded .selectorTimeout .path).st.link.reports = 0
      ∧ ((sys [fault .selectorTimeout .path .activeUnack]).takeEnded .selectorTimeout .path).st.ifu.faults
          = [fault .selectorTimeout .path .clearedUnack]
      ∧ ((sys [fault .selectorTimeout .path .activeAck]).takeEnded .selectorTimeout .path).st.ifu.faults = [] := by
  decide +kernel

theorem test_ack_fault_meets :
    let s (t : FaultState) : State := { roof with ifu := table [fault .raiseTimeout (.pan 0) t] }
    let result (u : State) (f : AckFields) (r : Result) : Bool :=
      after (.ackFault 1 (.fields f)) u fun t => decide (replied t = some r)
    result (s .activeUnack) .all (.ok (.acknowledgedAll 1 0)) ∧ result roof .all (.ok (.acknowledgedAll 0 0))
      ∧ result roof (.one 17 0) (.refused .outOfRange) ∧ FaultKind.all[16]? = some .driveExitExpired
      ∧ FaultKind.all[0]? = some .raiseTimeout ∧ subjectOf 1 = some (.pan 0) ∧ subjectOf 255 = none
      ∧ result roof (.one 0 255) (.refused .outOfRange) ∧ result roof (.one 0 0) (.refused .outOfRange)
      ∧ result roof (.one 0 1) (.refused .noEntry)
      ∧ result (s .activeUnack) (.one 0 1) (.ok (.acknowledged (.held .activeAck)))
      ∧ result (s .activeAck) (.one 0 1) (.ok (.acknowledged (.held .activeAck)))
      ∧ result (s .clearedUnack) (.one 0 1) (.ok (.acknowledged .removed)) := by decide +kernel

theorem test_interlocks_meet :
    let closes (s : State) (u : PathState) : Bool :=
      after (.interlockChange .earthing true) s fun t => decide (t.path.state = u ∧ t.ifu.earthed = true)
    runs (.interlockChange .airSupply true) roof ∧ closes loading .isolated
      ∧ closes (withMode roof .drive none) .isolated ∧ closes roof .isolated
      ∧ closes (pathIn roof .selecting (some 0) none) .isolated
      ∧ closes (pathIn roof .awaitLine (some 0) none) .isolated
      ∧ closes (pathIn roof (.coasting .loss) (some 0) none) .isolated
      ∧ closes (pathIn roof (.changing 1) (some 0) none) .isolated
      ∧ closes (pathIn roof .closing (some 0) none) .isolated ∧ closes running (.opening .earth)
      ∧ closes (pathIn running (.opening .loss) (some 0) none) (.opening .earth)
      ∧ closes (pathIn roof (.faulted .breakerStuckClosed) (some 0) none) (.faulted .breakerStuckClosed) := by
  decide +kernel

theorem test_an_opened_earthing_switch_lets_the_path_close :
    let earthed (s : State) : State :=
      { s with lines := { s.lines with earthClosed := true }, ifu := { s.ifu with earthed := true } }
    let opens (s : State) (u : PathState) : Bool := (earthed s).jobsRun && decide (s.ice.programs = [])
      && after (.interlockChange .earthing false) (earthed s) fun t => decide (t.path.state = u ∧ t.ifu.earthed = false
          ∧ t.pans = s.pans)
    decide (carried .awaitLine false).closes ∧ opens (carried .awaitLine false) .closing
      ∧ opens (carried (.coasting .loss) false) .closing ∧ opens (neutralCoast 5000 (some 0)) .closing
      ∧ opens (neutralCoast 5001 (some 0)) (.coasting (.neutral 5001)) ∧ opens (neutralCoast 5000 none) (.coasting (.neutral 5000))
      ∧ opens (carried .selecting false) .selecting ∧ opens (carried (.opening .earth) true) (.opening .earth)
      ∧ opens roof .isolated := by decide +kernel

/-- P1 in UP for the path and measuring, P2 in FALLING for the path and P3 in DOWN, with the path in a state and the
breaker closed or open. -/
def earthing (u : PathState) (closed : Bool) : State :=
  let s := panIn (pathIn running u (some 0) none) 1 .falling .path none
  let s := s.putPan 0 { s.pan 0 with want := .path, quality := 10 }
  { s with lines := { s.lines with breakerClosed := closed }
           cqm := { s.cqm with records := put s.cqm.records 0 { s.cqm.records.get 0 with
             state := if u = .live then .steady else .idle } } }

theorem test_earthing_lowers_the_pans :
    let pans (u : PathState) (closed : Bool) (l : List (PanState × Want)) : Bool :=
      (earthing u closed).jobsRun && decide ((earthing u closed).ice.programs = [])
        && after (.interlockChange .earthing true) (earthing u closed) fun t =>
          decide ([0, 1, 2].map (fun q => ((t.pan q).state, (t.pan q).want)) = l)
    let lowered := [(PanState.falling, Want.path), (.falling, .none), (.down, .none)]
    let kept := [(PanState.up, Want.path), (.falling, .path), (.down, .none)]
    pans .selecting false lowered ∧ pans .awaitLine false lowered ∧ pans (.coasting .loss) false lowered
      ∧ pans (.coasting (.neutral 9)) false lowered ∧ pans (.opening .request) true lowered
      ∧ pans .closing false lowered ∧ pans .live false lowered ∧ pans .closing true kept ∧ pans .live true kept
      ∧ pans .isolated false kept ∧ pans (.coasting .zone) false kept ∧ pans (.changing 1) false kept
      ∧ pans (.faulted .breakerStuckClosed) true kept
      ∧ after (.interlockChange .earthing true) (earthing .live true) (fun t => decide ((t.pan 0).quality = 0)) := by
  decide +kernel

theorem test_backfeed_meets :
    let watching (w : Watch) (r : LineRecord) : State :=
      { roof with ifu := { roof.ifu with watch := w }, sense := { roof.sense with record := r } }
    let samples (w : Watch) (r : LineRecord) (u : Watch) : Bool :=
      after .backfeedWatchSample (watching w r) fun t => decide (t.ifu.watch = u)
    gives .backfeedWatchSample loading loading ∧ gives .backfeedWatchSample (withMode roof .clamp none)
        (withMode roof .clamp none)
      ∧ samples .quiet (.recognized 0) (.timing 2000) ∧ samples .quiet .dead .quiet ∧ samples (.timing 100) .dead .quiet
      ∧ samples (.timing 100) (.recognized 0) (.timing 0) ∧ samples (.timing 0) (.recognized 0) (.present true)
      ∧ samples (.present true) (.recognized 0) (.present true) ∧ samples (.present true) .dead .quiet := by decide +kernel

/-! ### AOS -/

theorem test_preload_meets :
    let result (s : State) (l : List PreloadItem) (r : Result) : Bool :=
      after (.preload 1 (.fields l)) s fun t => decide (replied t = some r)
    let preloads (l : List PreloadItem) (f : Channels → Bool) : Bool :=
      after (.preload 1 (.fields l)) roof fun t => f t.outputs.preload
    result roof [⟨0, 39⟩] (.refused .outOfRange) ∧ result roof [⟨23, 0⟩] (.refused .outOfRange)
      ∧ result roof [⟨22, 4⟩] (.refused .outOfRange) ∧ result roof [⟨4, 1⟩, ⟨4, 0⟩] (.refused .fieldMismatch)
      ∧ result (withMode roof .clamp none) [⟨20, 1⟩] (.interlock .bcPreload)
      ∧ preloads [⟨0, 160⟩] (fun c => decide (c.rv.get 0 = some 160)) ∧ preloads [⟨3, 40⟩, ⟨7, 0⟩] (fun c =>
          decide (c.rv.get 3 = some 40 ∧ c.qv.get 3 = false))
      ∧ preloads [⟨19, 1⟩] (fun c => c.hz.get 11) ∧ preloads [⟨20, 1⟩, ⟨21, 0⟩, ⟨22, 3⟩] (fun c =>
          decide (c.bc = true ∧ c.bt = false ∧ c.sd = .to 2)) := by decide +kernel

theorem test_output_modes_meet :
    let orders (s : State) (n : Nat) (r : Result) : Bool :=
      after (.outputMode 1 (.fields n)) s fun t => decide (replied t = some r)
    let clamp := withMode roof .clamp none
    let drive := withMode roof .drive none
    let safe := withMode roof .safe none
    let preload := { roof with outputs := { roof.outputs with preload := { Channels.safe with bc := true } } }
    orders roof 4 (.refused .outOfRange) ∧ orders (withMode roof .drive (some 9)) 2 .mode
      ∧ orders roof 0 (.ok (.mode .run false)) ∧ orders safe 1 .mode ∧ orders safe 3 .mode ∧ orders drive 1 .mode
      ∧ orders running 1 (.interlock .path) ∧ orders (panUp roof 0) 3 (.interlock .pans)
      ∧ orders preload 1 (.interlock .bcPreload) ∧ orders preload 3 (.ok (.mode .drive false))
      ∧ orders roof 1 (.ok (.mode .clamp false)) ∧ orders clamp 3 (.ok (.mode .drive false))
      ∧ orders (panUp roof 0) 2 (.ok (.mode .safe false)) ∧ orders drive 2 (.ok (.mode .safe false))
      ∧ after (.outputMode 1 (.fields 2)) running (fun t => decide (t.path.state = .opening .request ∨ t.path.state = .opening .pan))
      ∧ after (.outputMode 1 (.fields 2)) (panUp roof 0) (fun t => decide ((t.pan 0).state = .falling))
      ∧ orders clamp 0 (.ok (.mode .run false)) ∧ orders safe 0 (.ok (.mode .run false))
      ∧ orders drive 0 (.ok (.mode .drive true)) ∧ drive.ready ∧ clamp.ready ∧ safe.ready := by decide +kernel

theorem test_safe_is_entered_from_every_state_of_the_path :
    let enters (s : State) (u : PathState) (v : PanState) : Bool := s.ready && after (.outputMode 1 (.fields 2)) s fun t =>
      decide (t.path.state = u ∧ t.path.claims = .replicate 4 .none ∧ (t.pan 0).state = v ∧ (t.pan 0).want = .none)
    let reports (s : State) : Bool := enters s (.opening .request) .falling || enters s (.opening .pan) .falling
    enters (carried .selecting false) .isolated .falling ∧ enters (carried .awaitLine false) .isolated .falling
      ∧ enters (carried (.coasting .loss) false) .isolated .falling
      ∧ enters (carried (.coasting (.neutral 9)) false) .isolated .falling
      ∧ enters (panIn (carried (.coasting .zone) false) 0 .down .path none) .isolated .down
      ∧ enters (carried (.changing 1) false) .isolated .falling
      ∧ enters (carried .closing false) .isolated .falling ∧ enters (carried .live false) .isolated .falling
      ∧ reports (carried .closing true) ∧ reports (carried .live true)
      ∧ enters (carried (.opening .loss) true) (.opening .loss) .falling
      ∧ enters (carried (.faulted .breakerStuckClosed) true) (.faulted .breakerStuckClosed) .falling
      ∧ enters (panIn roof 0 .dropping .link none) .isolated .dropping
      ∧ enters (withMode (panUp roof 0) .clamp none) .isolated .falling := by decide +kernel

/-- A drive session, with or without its exit timer, on a roof whose lines have moved: the breaker reads closed or open, the
ambient is below its range, and P1's head, the heater at P1 and the precipitation have changed. -/
def driven (timer : Option Nat) (closed : Bool) : State :=
  let s := withMode roof .drive timer
  { s with
    lines := { s.lines with pans := put s.lines.pans 0 touching, breakerClosed := closed, ambient := -501, wet := true
                            contactors := put s.lines.contactors 0 true }
    ifu := table [fault .breakerStuckClosed .path .activeUnack] }

theorem test_the_jobs_are_released :
    let releases (i : Instr) (s : State) (closed : Bool) : Bool := s.ready && s.held && after i s fun t =>
      decide ((t.pan 0).state = .falling ∧ (t.pan 0).inputs = touching ∧ (t.pan 1).state = .down
        ∧ t.outputs.commanded.bt = closed ∧ t.ice.temperature = -500 ∧ t.ice.wet = true ∧ (t.ice.zones.get 0).feedback = true
        ∧ t.ifu.faults.map FaultEntry.state = [if closed then .activeUnack else .clearedUnack])
    releases (.start 1 (.fields ())) (driven (some 1) true) true
      ∧ releases (.start 1 (.fields ())) (driven (some 1) false) false
      ∧ releases (.outputMode 1 (.fields 2)) (driven none true) true
      ∧ releases (.outputMode 1 (.fields 2)) (driven none false) false
      ∧ after (.start 1 (.fields ())) (driven (some 1) true) (fun t => decide (t.ice.budget = t.ice.standby
          ∧ t.outputs.mode = .run))
      ∧ after (.outputMode 1 (.fields 2)) (driven none true) (fun t => decide (t.ice.budget = 0 ∧ t.outputs.mode = .safe
          ∧ (t.ice.zones.get 0).check = .running 500)) := by decide +kernel

theorem test_start_meets :
    let leaving := withMode roof .drive (some 2000)
    leaving.ready
      ∧ after (.start 1 (.fields ())) roof (fun t => decide (replied t = some (.refused .notHeld)))
      ∧ after (.start 1 (.fields ())) leaving (fun t => decide (t.outputs.mode = .run ∧ (t.pan 0).state = .down))
      ∧ after (.start 1 (.fields ())) { leaving with lines := { leaving.lines with
            pans := put leaving.lines.pans 0 touching } } (fun t => decide ((t.pan 0).state = .falling))
      ∧ after (.start 1 (.fields ())) (panIn leaving 0 .tripped .none none) (fun t =>
          decide ((t.pan 0).state = .tripped)) := by decide +kernel

theorem test_last_reads_meet :
    runs (.readIce 1 (.fields ())) running ∧ runs (.readIce 1 (.fields ())) (withMode roof .safe none)
      ∧ runs (.readIce 1 (.fields ())) roof ∧ runs (.readQuality 1 (.fields ())) roof
      ∧ runs (.readFaults 1 (.fields ())) roof ∧ runs (.sample 1 (.fields ())) (withMode roof .drive (some 3))
      ∧ runs (.sample 1 (.fields ())) loading ∧ loading.receives ∧ loading.loaded = false
      ∧ after (.sample 1 (.fields ())) running (fun t => match replied t with
          | some (.ok (.sample v)) => decide (v.feedback.bc = true ∧ v.feedback.sd = some 0)
              && decide ((bSampled v).length = 4 * 23 + 15)
          | _ => false) := by decide +kernel

/-! ### The invariants -/

def ordered : State := { running with pending := [.lower 1 (.fields 1)] }

theorem test_invariants_meet :
    ordered.link.sound ∧ ordered.steady ∧ ordered.marker.sound ∧ ordered.ifu.sound ∧ ordered.marksSound
      ∧ ordered.ice.sound ∧ ordered.ice.programs = []
      ∧ (match step ordered with
         | .next t => decide (t.link.sound ∧ t.steady ∧ t.marksSound ∧ (t.pan 0).state = .falling)
         | _ => false) = true := by decide +kernel

/-- The path selects S2 with its drive on, and its breaker, which reads closed, is tripped. -/
def selecting : State :=
  { pathIn roof .selecting (some 1) (some { kind := .selector, remaining := 9 }) with
    lines := { roof.lines with breakerClosed := true }
    outputs := { roof.outputs with commanded := { roof.outputs.commanded with bt := true, sd := .to (supply 1).selector } } }

theorem test_commands_meet :
    let steps (i : Instr) (s : State) (bt : Bool) : Bool :=
      decide (s.commandsMatch ∧ s.ice.sound ∧ s.jobsRun = true ∧ s.tripFollows)
        && match step { s with pending := [i] } with
          | .next t => decide (t.commandsMatch ∧ t.jobsRun = true ∧ t.tripFollows ∧ t.outputs.commanded.bt = bt)
          | _ => false
    roof.commandsMatch ∧ roof.tripFollows
      ∧ steps (.breakerFeedbackChange false) selecting false ∧ steps .selectorMoveTimeout selecting true
      ∧ steps (.breakerFeedbackChange true) roof true := by decide +kernel

theorem test_descriptors_and_raised_pans_meet :
    (5 ≤ (supply 1).nominal ∧ (supply 1).nominal ≤ 300) ∧ (supply 1).bandLow = 70 ∧ (supply 1).frequency = some 500
      ∧ (supply 0).kind = .ac ∧ (loading.store.descriptors.toList.all Option.isNone) = true
      ∧ running.descriptor ((running.pan 0).inForce.system) = some (supply 0)
      ∧ (allPans.filter fun q => decide ((running.pan q).state = .up)).length = 1
      ∧ (running.pan 0).inForce.system = running.path.target ∧ (running.pan 0).fitted = true := by decide +kernel

end Sys2Proof.Tests
end

section
/-! Which operations of a step leave the descriptor table as it was: the shared operations first, then every request and
event of each block but DESCRIBE_SYSTEM and the end of a load. -/

namespace Sys2Proof.Machine

/-! ### The descriptor table, and what keeps it -/

/-- A run of acts leaves the descriptor table as it was. -/
theorem State.Reach.descriptors {s t : State} (h : State.Reach s t) : t.store.descriptors = s.store.descriptors :=
  congrArg Still.descriptors h.still

/-- A step of a state leaves the descriptor table as its event has it: no notice writes it. -/
theorem State.run_descriptors (s : State) (event : Sys → Sys) :
    (s.run event).store.descriptors = (event { st := s, todo := [] }).st.store.descriptors :=
  (Sys.reach_settle .refl).descriptors

section
variable (y : Sys)

/-! ### The shared operations -/

@[simp] theorem Sys.sendIf_descriptors (b : Bool) (n : Notice) :
    (y.sendIf b n).st.store.descriptors = y.st.store.descriptors := by rw [Sys.sendIf_st]

@[simp] theorem Sys.postAll_descriptors (l : List Report) :
    (y.postAll l).st.store.descriptors = y.st.store.descriptors := by rw [Sys.postAll_st]

@[simp] theorem Sys.movePan_descriptors (p : PanId) (new : Pan) (c : PanCause) (w : Option RetryRefusal)
    (l : List Notice) : (y.movePan p new c w l).st.store.descriptors = y.st.store.descriptors := by
  unfold Sys.movePan
  dsimp only
  split <;> rfl

@[simp] theorem Sys.movePath_descriptors (q : Path) (w : PathEvent) (l : List Notice) :
    (y.movePath q w l).st.store.descriptors = y.st.store.descriptors := by
  unfold Sys.movePath
  dsimp only
  split <;> rfl

@[simp] theorem Sys.publish_descriptors (w : Work) (f : ZoneId → ZoneCause) :
    (y.publish w f).st.store.descriptors = y.st.store.descriptors := by
  simp [Sys.publish]

@[simp] theorem Sys.evaluateAgain_descriptors (n : Nat) (w : Work) :
    (Sys.evaluateAgain n y w).st.store.descriptors = y.st.store.descriptors :=
  (Sys.reach_evaluateAgain n w .refl).descriptors

@[simp] theorem Sys.publishAll_descriptors (w : Work) (f : ZoneId → ZoneCause) :
    (y.publishAll w f).st.store.descriptors = y.st.store.descriptors := by
  simp [Sys.publishAll]

@[simp] theorem Sys.evaluate_descriptors (w : Work) :
    (y.evaluate w).st.store.descriptors = y.st.store.descriptors := y.publishAll_descriptors _ _

@[simp] theorem Sys.evaluateIf_descriptors (b : Bool) (w : Work) :
    (y.evaluateIf b w).st.store.descriptors = y.st.store.descriptors := by
  cases b <;> simp [Sys.evaluateIf]

@[simp] theorem Sys.finishLevel_descriptors (w : Work) :
    (y.finishLevel w).st.store.descriptors = y.st.store.descriptors := y.evaluateIf_descriptors _ _

@[simp] theorem Sys.takeRaised_descriptors (k : FaultKind) (j : Subject) :
    (y.takeRaised k j).st.store.descriptors = y.st.store.descriptors := (Sys.reach_takeRaised k j .refl).descriptors

@[simp] theorem Sys.takeEnded_descriptors (k : FaultKind) (j : Subject) :
    (y.takeEnded k j).st.store.descriptors = y.st.store.descriptors := (Sys.reach_takeEnded k j .refl).descriptors

@[simp] theorem Sys.setMode_descriptors (m : OutputMode) (t : Option Nat) (c : ModeCause) :
    (y.setMode m t c).st.store.descriptors = y.st.store.descriptors := rfl

@[simp] theorem Sys.finishOffer_descriptors (o : Offer) :
    (y.finishOffer o).st.store.descriptors = y.st.store.descriptors := by
  simp [Sys.finishOffer]

@[simp] theorem Sys.setRecord_descriptors (r : LineRecord) (c : LineCause) (l : Option SysId) (ns : List Notice) :
    (y.setRecord r c l ns).st.store.descriptors = y.st.store.descriptors := by
  unfold Sys.setRecord
  dsimp only
  split <;> rfl

/-- A request on one pan leaves the table where its rule does. -/
theorem Sys.onPan_descriptors (c : Call) (pan : Nat) (rule : PanId → Sys)
    (h : ∀ p, (rule p).st.store.descriptors = y.st.store.descriptors) :
    (y.onPan c pan rule).st.store.descriptors = y.st.store.descriptors := by
  unfold Sys.onPan
  repeat' split
  case h_2 p _ => exact h p
  all_goals rfl

/-! ### CIL and LNK -/

theorem State.abortPans_descriptors (s : State) (l : List PanId) :
    (l.foldl State.abortPan s).store.descriptors = s.store.descriptors := by
  induction l generalizing s with
  | nil => rfl
  | cons p l ih => exact ih (s.abortPan p)

theorem Sys.warmRestart_descriptors (c : StartCause) :
    (y.warmRestart c).st.store.descriptors = y.st.store.descriptors := by
  have mode (z : Sys) : z.restartMode.st.store.descriptors = z.st.store.descriptors := by
    unfold Sys.restartMode
    split <;> rfl
  exact (State.abortPans_descriptors _ _).trans (mode _)

theorem Sys.driveExit_descriptors : y.driveExit.st.store.descriptors = y.st.store.descriptors := by
  unfold Sys.driveExit
  split
  · simp [Sys.warmRestart_descriptors]
  · rfl

theorem Sys.linkBreak_descriptors : y.linkBreak.st.store.descriptors = y.st.store.descriptors := by
  unfold Sys.linkBreak
  split <;> rfl

theorem Sys.unknownType_descriptors (type tag : Byte) :
    (y.unknownType type tag).st.store.descriptors = y.st.store.descriptors := by
  unfold Sys.unknownType
  dsimp only
  repeat' split
  all_goals rfl

/-! ### PRF and LSR -/

theorem Sys.stageProfile_descriptors (c : Call) (f : StageFields) :
    (y.stageProfile c f).st.store.descriptors = y.st.store.descriptors := by
  unfold Sys.stageProfile
  repeat' split
  all_goals rfl

/-- The decision of one pan by APPLY writes its status, its active entry and its in-force profile alone. -/
theorem applyPan_descriptors (set : Vector Profile 4) (onPass : Bool) (z : Sys × Applied) (p : PanId) :
    (applyPan set onPass z p).1.st.store.descriptors = z.1.st.store.descriptors := by
  unfold applyPan
  dsimp only
  repeat' split
  case h_2.isTrue =>
    unfold applyOnPass
    dsimp only
    split <;> rfl
  case h_2.isFalse =>
    unfold applyNow
    dsimp only
    repeat' split
    all_goals rfl
  all_goals rfl

theorem applyPans_descriptors (set : Vector Profile 4) (onPass : Bool) (l : List PanId) (z : Sys × Applied) :
    (l.foldl (applyPan set onPass) z).1.st.store.descriptors = z.1.st.store.descriptors := by
  induction l generalizing z with
  | nil => rfl
  | cons p l ih => exact (ih _).trans (applyPan_descriptors set onPass z p)

theorem Sys.apply_descriptors (c : Call) (f : ApplyFields) :
    (y.apply c f).st.store.descriptors = y.st.store.descriptors := by
  unfold Sys.apply
  repeat' split
  case h_2.isFalse.isFalse => simp [applyPans_descriptors]
  all_goals rfl

theorem Sys.readSystem_descriptors (c : Call) (index : Nat) :
    (y.readSystem c index).st.store.descriptors = y.st.store.descriptors := by
  unfold Sys.readSystem
  split <;> rfl

theorem Sys.completeWindow_descriptors (l : List Int) :
    (y.completeWindow l).st.store.descriptors = y.st.store.descriptors := by
  simp [Sys.completeWindow]

@[simp] theorem Sys.descriptorChanged_descriptors (i : SysId) :
    (y.descriptorChanged i).st.store.descriptors = y.st.store.descriptors := by
  unfold Sys.descriptorChanged
  repeat' split
  all_goals simp

/-! ### MKR -/

theorem Sys.wheelPulse_descriptors : y.wheelPulse.st.store.descriptors = y.st.store.descriptors := by
  unfold Sys.wheelPulse
  dsimp only
  repeat' split
  all_goals rfl

theorem Sys.speedRecompute_descriptors : y.speedRecompute.st.store.descriptors = y.st.store.descriptors := by
  unfold Sys.speedRecompute
  split <;> rfl

theorem Sys.declare_descriptors (p : Pair) : (y.declare p).st.store.descriptors = y.st.store.descriptors := by
  unfold Sys.declare
  dsimp only
  split
  · rfl
  · simp

theorem Sys.takeTelegram_descriptors (t : Telegram) :
    (y.takeTelegram t).st.store.descriptors = y.st.store.descriptors := by
  unfold Sys.takeTelegram
  dsimp only
  repeat' split
  case isFalse.isTrue.isTrue => exact Sys.declare_descriptors _ _
  all_goals rfl

theorem Sys.announce_descriptors (c : Call) (f : AnnounceFields) :
    (y.announce c f).st.store.descriptors = y.st.store.descriptors := by
  unfold Sys.announce
  repeat' split
  case h_2.isFalse => simp
  all_goals rfl

theorem Sys.withdraw_descriptors (c : Call) (id : Nat) :
    (y.withdraw c id).st.store.descriptors = y.st.store.descriptors := by
  unfold Sys.withdraw
  split <;> rfl

theorem Sys.markerSetup_descriptors (c : Call) (n : Nat) :
    (y.markerSetup c n).st.store.descriptors = y.st.store.descriptors := by
  unfold Sys.markerSetup
  split <;> rfl

/-! ### PAN -/

theorem Sys.raise_descriptors (c : Call) (pan : Nat) :
    (y.raise c pan).st.store.descriptors = y.st.store.descriptors := by
  refine y.onPan_descriptors c pan _ fun p => ?_
  dsimp only
  split
  case h_1 =>
    split
    · rfl
    · split
      · rfl
      · exact Sys.movePan_descriptors _ _ _ _ _ _
  all_goals rfl

theorem Sys.lowerPan_descriptors (p : PanId) (c : PanCause) :
    (y.lowerPan p c).st.store.descriptors = y.st.store.descriptors := (Sys.reach_lowerPan p c .refl).descriptors

theorem Sys.lower_descriptors (c : Call) (pan : Nat) :
    (y.lower c pan).st.store.descriptors = y.st.store.descriptors :=
  y.onPan_descriptors c pan _ fun p => Sys.lowerPan_descriptors _ p _

theorem Sys.drop_descriptors (c : Call) (pan : Nat) :
    (y.drop c pan).st.store.descriptors = y.st.store.descriptors := by
  refine y.onPan_descriptors c pan _ fun p => ?_
  dsimp only
  split
  case h_5 => exact Sys.lowerPan_descriptors _ p _
  case h_6 | h_7 => rfl
  all_goals exact Sys.movePan_descriptors _ _ _ _ _ _

theorem Sys.resetTrip_descriptors (c : Call) (pan : Nat) :
    (y.resetTrip c pan).st.store.descriptors = y.st.store.descriptors := by
  refine y.onPan_descriptors c pan _ fun p => ?_
  dsimp only
  repeat' split
  case isFalse.isFalse.isFalse.isFalse => exact Sys.movePan_descriptors _ _ _ _ _ _
  all_goals rfl

theorem Sys.readPan_descriptors (c : Call) (mask : Nat) :
    (y.readPan c mask).st.store.descriptors = y.st.store.descriptors := by
  unfold Sys.readPan
  split <;> rfl

theorem Sys.takePanInput_descriptors (p : PanId) (k : PanInput) (b : Bool) :
    (y.takePanInput p k b).st.store.descriptors = y.st.store.descriptors := by
  unfold Sys.takePanInput
  dsimp only
  split
  · exact (Sys.reach_panEvent p _ _ .refl).descriptors
  · rfl

theorem Sys.raiseTimeout_descriptors (p : PanId) :
    (y.raiseTimeout p).st.store.descriptors = y.st.store.descriptors := by
  unfold Sys.raiseTimeout
  split
  · exact (Sys.reach_raiseTimedOut p .refl).descriptors
  · rfl

theorem Sys.lowerTimeout_descriptors (p : PanId) :
    (y.lowerTimeout p).st.store.descriptors = y.st.store.descriptors := by
  unfold Sys.lowerTimeout
  dsimp only
  split <;> rfl

theorem Sys.dropTimeout_descriptors (p : PanId) :
    (y.dropTimeout p).st.store.descriptors = y.st.store.descriptors := by
  unfold Sys.dropTimeout
  dsimp only
  split <;> rfl

theorem Sys.dipPulseEnd_descriptors (p : PanId) :
    (y.dipPulseEnd p).st.store.descriptors = y.st.store.descriptors := by
  unfold Sys.dipPulseEnd
  dsimp only
  repeat' split
  case h_1.isTrue => exact Sys.movePan_descriptors _ _ _ _ _ _
  all_goals rfl

theorem Sys.dipRegainExpiry_descriptors (p : PanId) :
    (y.dipRegainExpiry p).st.store.descriptors = y.st.store.descriptors := by
  unfold Sys.dipRegainExpiry
  dsimp only
  split
  · exact Sys.movePan_descriptors _ _ _ _ _ _
  · rfl

/-! ### CHG -/

@[simp] theorem Sys.awaitTests_descriptors (w : PathEvent) :
    (y.awaitTests w).st.store.descriptors = y.st.store.descriptors := (Sys.reach_awaitTests w .refl).descriptors

@[simp] theorem Sys.completeOpen_descriptors : y.completeOpen.st.store.descriptors = y.st.store.descriptors :=
  (Sys.reach_completeOpen .refl).descriptors

@[simp] theorem Sys.toIsolated_descriptors (k : Claims) (w : PathEvent) (l : List Notice) :
    (y.toIsolated k w l).st.store.descriptors = y.st.store.descriptors := y.movePath_descriptors _ _ _

@[simp] theorem Sys.toFaulted_descriptors (a : PathFault) (k : FaultKind) (c : PathCause) :
    (y.toFaulted a k c).st.store.descriptors = y.st.store.descriptors := y.movePath_descriptors _ _ _

@[simp] theorem Sys.toOpening_descriptors (q : Path) (r : OpeningReason) (w : PathEvent) :
    (y.toOpening q r w).st.store.descriptors = y.st.store.descriptors := by
  unfold Sys.toOpening
  dsimp only
  split <;> simp

@[simp] theorem Sys.selectorStep_descriptors (q : Path) (w : PathEvent) (k : Claims) :
    (y.selectorStep q w k).st.store.descriptors = y.st.store.descriptors := by
  unfold Sys.selectorStep
  split <;> simp

theorem Sys.connect_descriptors (c : Call) (index : Nat) :
    (y.connect c index).st.store.descriptors = y.st.store.descriptors := by
  unfold Sys.connect
  repeat' split
  case h_2 => exact Sys.selectorStep_descriptors _ _ _ _
  all_goals rfl

theorem Sys.isolate_descriptors (c : Call) : (y.isolate c).st.store.descriptors = y.st.store.descriptors := by
  unfold Sys.isolate
  repeat' split
  all_goals simp

theorem Sys.setAuto_descriptors (c : Call) (n : Nat) :
    (y.setAuto c n).st.store.descriptors = y.st.store.descriptors := by
  unfold Sys.setAuto
  repeat' split
  all_goals rfl

theorem Sys.clearPath_descriptors (c : Call) : (y.clearPath c).st.store.descriptors = y.st.store.descriptors := by
  unfold Sys.clearPath
  repeat' split
  case h_1.isFalse => exact Sys.movePath_descriptors _ _ _ _
  all_goals rfl

theorem Sys.breakerEvent_descriptors : y.breakerEvent.st.store.descriptors = y.st.store.descriptors := by
  unfold Sys.breakerEvent
  dsimp only
  repeat' split
  all_goals simp

theorem Sys.selectorEvent_descriptors : y.selectorEvent.st.store.descriptors = y.st.store.descriptors := by
  unfold Sys.selectorEvent
  repeat' split
  case h_4 => exact (Sys.reach_testClosing _ .refl).descriptors
  all_goals simp

theorem Sys.selectorMoveTimeout_descriptors :
    y.selectorMoveTimeout.st.store.descriptors = y.st.store.descriptors := by
  unfold Sys.selectorMoveTimeout
  split <;> simp

theorem Sys.closeFeedbackTimeout_descriptors :
    y.closeFeedbackTimeout.st.store.descriptors = y.st.store.descriptors := by
  unfold Sys.closeFeedbackTimeout
  split <;> simp

theorem Sys.openFeedbackTimeout_descriptors :
    y.openFeedbackTimeout.st.store.descriptors = y.st.store.descriptors := by
  unfold Sys.openFeedbackTimeout
  split <;> simp

theorem Sys.awaitLineLimit_descriptors : y.awaitLineLimit.st.store.descriptors = y.st.store.descriptors := by
  unfold Sys.awaitLineLimit
  split <;> simp

theorem Sys.lossCoastLimit_descriptors : y.lossCoastLimit.st.store.descriptors = y.st.store.descriptors := by
  unfold Sys.lossCoastLimit
  split <;> simp

/-! ### ICE -/

theorem Sys.zoneMode_descriptors (c : Call) (f : ZoneModeFields) :
    (y.zoneMode c f).st.store.descriptors = y.st.store.descriptors := by
  unfold Sys.zoneMode
  repeat' split
  case h_2 =>
    dsimp only
    split
    · rfl
    · exact Sys.publishAll_descriptors _ _ _
  all_goals rfl

theorem Sys.iceLevel_descriptors (c : Call) (f : IceLevelFields) :
    (y.iceLevel c f).st.store.descriptors = y.st.store.descriptors := by
  unfold Sys.iceLevel
  repeat' split
  case h_2 => exact Sys.finishLevel_descriptors _ _
  all_goals rfl

theorem Sys.startProgram_descriptors (c : Call) (f : StartProgramFields) :
    (y.startProgram c f).st.store.descriptors = y.st.store.descriptors := by
  unfold Sys.startProgram
  repeat' split
  case h_2 => exact Sys.publishAll_descriptors _ _ _
  all_goals rfl

theorem Sys.stopProgram_descriptors (c : Call) (pan : Nat) :
    (y.stopProgram c pan).st.store.descriptors = y.st.store.descriptors := by
  unfold Sys.stopProgram
  repeat' split
  case h_2 => exact Sys.evaluate_descriptors _ _
  all_goals rfl

theorem Sys.takeHeaterFeedback_descriptors (z : ZoneId) (b : Bool) :
    (y.takeHeaterFeedback z b).st.store.descriptors = y.st.store.descriptors := by
  unfold Sys.takeHeaterFeedback
  dsimp only
  split <;> rfl

theorem Sys.feedbackCheckExpiry_descriptors (z : ZoneId) :
    (y.feedbackCheckExpiry z).st.store.descriptors = y.st.store.descriptors := by
  unfold Sys.feedbackCheckExpiry
  dsimp only
  repeat' split
  all_goals simp

/-! ### CQM -/

theorem Sys.windowEnd_descriptors (p : PanId) : (y.windowEnd p).st.store.descriptors = y.st.store.descriptors := by
  unfold Sys.windowEnd
  dsimp only
  repeat' split
  all_goals simp

theorem Sys.periodEnd_descriptors : y.periodEnd.st.store.descriptors = y.st.store.descriptors := by
  unfold Sys.periodEnd
  repeat' split
  all_goals rfl

theorem Sys.gate_descriptors (c : Call) (n : Nat) : (y.gate c n).st.store.descriptors = y.st.store.descriptors := by
  unfold Sys.gate
  dsimp only
  repeat' split
  all_goals rfl

theorem Sys.resetCounts_descriptors (c : Call) : (y.resetCounts c).st.store.descriptors = y.st.store.descriptors := by
  unfold Sys.resetCounts
  split <;> rfl

theorem Sys.qualitySetup_descriptors (c : Call) (f : QualitySetupFields) :
    (y.qualitySetup c f).st.store.descriptors = y.st.store.descriptors := by
  unfold Sys.qualitySetup
  dsimp only
  repeat' split
  all_goals rfl

theorem Sys.injectArc_descriptors (c : Call) (pan : Nat) :
    (y.injectArc c pan).st.store.descriptors = y.st.store.descriptors := by
  refine y.onPan_descriptors c pan _ fun p => ?_
  dsimp only
  repeat' split
  all_goals rfl

/-! ### IFU and AOS -/

theorem Sys.ackFault_descriptors (c : Call) (f : AckFields) :
    (y.ackFault c f).st.store.descriptors = y.st.store.descriptors := by
  unfold Sys.ackFault
  dsimp only
  repeat' split
  all_goals rfl

theorem Sys.takeInterlock_descriptors (k : InterlockInput) (b : Bool) :
    (y.takeInterlock k b).st.store.descriptors = y.st.store.descriptors := by
  cases k <;> simp [Sys.takeInterlock]

theorem Sys.sampleWatch_descriptors : y.sampleWatch.st.store.descriptors = y.st.store.descriptors := by
  unfold Sys.sampleWatch
  repeat' split
  all_goals simp [Sys.raiseBackfeed]

theorem Sys.iceDrive_descriptors : y.iceDrive.st.store.descriptors = y.st.store.descriptors :=
  Sys.evaluate_descriptors _ _

theorem Sys.enterTested_descriptors (c : Call) (m : OutputMode) (enter : Sys → Sys)
    (h : ∀ z : Sys, (enter z).st.store.descriptors = z.st.store.descriptors) :
    (y.enterTested c m enter).st.store.descriptors = y.st.store.descriptors := by
  unfold Sys.enterTested
  split
  · rfl
  · exact h _

theorem Sys.outputMode_descriptors (c : Call) (n : Nat) :
    (y.outputMode c n).st.store.descriptors = y.st.store.descriptors := by
  have drive (z : Sys) : z.enterDrive.st.store.descriptors = z.st.store.descriptors :=
    Sys.iceDrive_descriptors (z.setMode .drive none .request)
  have safe (z : Sys) : (z.enterSafe .request).st.store.descriptors = z.st.store.descriptors :=
    (Sys.reach_enterSafe _ .refl).descriptors
  unfold Sys.outputMode
  repeat' split
  all_goals first
    | rfl
    | exact y.enterTested_descriptors c _ _ fun _ => rfl
    | exact y.enterTested_descriptors c _ _ drive
    | exact safe _

theorem Sys.startRequest_descriptors (c : Call) :
    (y.startRequest c).st.store.descriptors = y.st.store.descriptors := by
  unfold Sys.startRequest
  split <;> rfl

theorem Sys.preload_descriptors (c : Call) (l : List PreloadItem) :
    (y.preload c l).st.store.descriptors = y.st.store.descriptors := by
  unfold Sys.preload
  repeat' split
  all_goals rfl

end

end Sys2Proof.Machine
end

section
/-! A descriptor in its ranges (R1), the checks of R3 by what they say, and the two writers of the descriptor table: the
end of a load and DESCRIBE_SYSTEM. -/

namespace Sys2Proof.Machine

/-! ### A descriptor in its ranges (R1) -/

/-- The fields of a descriptor are in their ranges, with a frequency and its tolerance exactly where the kind is AC. -/
def Descriptor.Sound (d : Descriptor) : Prop :=
  (5 ≤ d.nominal ∧ d.nominal ≤ 300) ∧ (50 ≤ d.bandLow ∧ d.bandLow ≤ 100) ∧ (100 ≤ d.bandHigh ∧ d.bandHigh ≤ 130)
    ∧ (40 ≤ d.force ∧ d.force ≤ 140) ∧ (1 ≤ d.maxRaised ∧ d.maxRaised ≤ 2) ∧ d.budget ≤ 400
    ∧ (5 ≤ d.confirm ∧ d.confirm ≤ 63) ∧ d.deviation ≤ 40
    ∧ (d.kind = .ac → ∃ f w, d.frequency = some f ∧ 100 ≤ f ∧ f ≤ 700 ∧ d.tolerance = some w ∧ 1 ≤ w ∧ w ≤ 50)
    ∧ (d.kind = .dc → d.frequency = none ∧ d.tolerance = none)

/-- Every present entry of a descriptor table is in its ranges. -/
def TableSound (v : Vector (Option Descriptor) 8) : Prop := ∀ (i : SysId) (d : Descriptor), v.get i = some d → d.Sound

theorem State.descriptorsSound_iff (s : State) : s.descriptorsSound ↔ TableSound s.store.descriptors := Iff.rfl

theorem TableSound.empty : TableSound (.replicate 8 none) := by
  intro i d h
  simp [Vector.get_eq_getElem] at h

theorem TableSound.put {v : Vector (Option Descriptor) 8} (h : TableSound v) (i : SysId) {e : Option Descriptor}
    (he : ∀ d, e = some d → d.Sound) : TableSound (put v i e) := by
  intro j d hd
  by_cases hj : j = i
  · subst hj
    exact he d (by simpa using hd)
  · rw [put_get_of_ne _ _ _ _ hj] at hd
    exact h j d hd

end Sys2Proof.Machine

namespace Sys2Proof

/-! ### The checks of R3 -/

/-- The raw fields lie in the ranges of R1 (R3 check 2). -/
def RawDescriptor.Ranged (d : RawDescriptor) : Prop :=
  (d.kind ≤ 1 ∧ 5 ≤ d.nominal ∧ d.nominal ≤ 300) ∧ (∀ f, d.frequency = some f → 100 ≤ f ∧ f ≤ 700)
    ∧ (50 ≤ d.bandLow ∧ d.bandLow ≤ 100) ∧ (100 ≤ d.bandHigh ∧ d.bandHigh ≤ 130)
    ∧ (∀ w, d.tolerance = some w → 1 ≤ w ∧ w ≤ 50) ∧ d.strip ≤ 2 ∧ (40 ≤ d.force ∧ d.force ≤ 140)
    ∧ (1 ≤ d.maxRaised ∧ d.maxRaised ≤ 2) ∧ (1 ≤ d.selector ∧ d.selector ≤ 3) ∧ d.breaker ≤ 1 ∧ d.budget ≤ 400
    ∧ (5 ≤ d.confirm ∧ d.confirm ≤ 63) ∧ d.deviation ≤ 40 ∧ d.neutral ≤ 1

/-- The frequency fields stand exactly where the kind is AC (R3 check 3). -/
def RawDescriptor.Matched (d : RawDescriptor) : Prop :=
  (d.kind = 0 → d.frequency ≠ none ∧ d.tolerance ≠ none) ∧ (d.kind ≠ 0 → d.frequency = none ∧ d.tolerance = none)

/-- The descriptor that raw fields spell, each named value written out. -/
def RawDescriptor.spelled (d : RawDescriptor) : Machine.Descriptor :=
  { kind := if d.kind = 0 then .ac else .dc, nominal := d.nominal, frequency := d.frequency, bandLow := d.bandLow
    bandHigh := d.bandHigh, tolerance := d.tolerance
    strip := if d.strip = 0 then .a else if d.strip = 1 then .b else .any
    force := d.force, maxRaised := d.maxRaised, selector := Fin.ofNat 3 (d.selector - 1)
    breaker := if d.breaker = 0 then .ac else .dc, budget := d.budget, confirm := d.confirm
    deviation := d.deviation, neutral := if d.neutral = 0 then .openBreaker else .lowerPans }

end Sys2Proof

namespace Sys2Proof.Machine

theorem within_iff (lo hi n : Nat) : within lo hi n = true ↔ lo ≤ n ∧ n ≤ hi := by simp [within]

theorem withinIfAny_iff (lo hi : Nat) (o : Option Nat) :
    withinIfAny lo hi o = true ↔ ∀ n, o = some n → lo ≤ n ∧ n ≤ hi := by
  cases o <;> simp [withinIfAny, within_iff]

theorem descriptorInRange_iff (d : RawDescriptor) : descriptorInRange d = true ↔ d.Ranged := by
  simp only [descriptorInRange, RawDescriptor.Ranged, Bool.and_eq_true, decide_eq_true_eq, within_iff, withinIfAny_iff,
    Nat.lt_succ_iff, and_assoc]

theorem descriptorMatchesKind_iff (d : RawDescriptor) : descriptorMatchesKind d = true ↔ d.Matched := by
  unfold descriptorMatchesKind RawDescriptor.Matched
  by_cases k : d.kind = 0 <;> simp [k, Option.isSome_iff_ne_none]

/-- The named values of fields in their ranges are the places of their lists. -/
theorem buildDescriptor_of_ranged {d : RawDescriptor} (h : d.Ranged) : buildDescriptor d = d.spelled := by
  obtain ⟨⟨hkind, -, -⟩, -, -, -, -, hstrip, -, -, ⟨hlow, hhigh⟩, hbreaker, -, -, -, hneutral⟩ := h
  have kinds : ∀ n ≤ 1, SupplyKind.all.getD n .ac = if n = 0 then .ac else .dc := by decide
  have strips : ∀ n ≤ 2, StripAdmitted.all.getD n .any = if n = 0 then .a else if n = 1 then .b else .any := by decide
  have neutrals : ∀ n ≤ 1, NeutralHandling.all.getD n .openBreaker = if n = 0 then .openBreaker else .lowerPans := by
    decide
  have positions : ∀ n ≤ 3, 1 ≤ n → (positionOf n).getD 0 = Fin.ofNat 3 (n - 1) := by decide
  simp only [buildDescriptor, RawDescriptor.spelled, kinds _ hkind, strips _ hstrip, kinds _ hbreaker,
    neutrals _ hneutral, positions _ hhigh hlow]

theorem checkDescriptor_of_not_ranged {d : RawDescriptor} (h : ¬d.Ranged) :
    checkDescriptor d = .error .outOfRange := by
  rw [← descriptorInRange_iff, Bool.not_eq_true] at h
  simp [checkDescriptor, h]

theorem checkDescriptor_of_not_matched {d : RawDescriptor} (h : d.Ranged) (k : ¬d.Matched) :
    checkDescriptor d = .error .fieldMismatch := by
  rw [← descriptorMatchesKind_iff, Bool.not_eq_true] at k
  simp [checkDescriptor, (descriptorInRange_iff d).mpr h, k]

theorem checkDescriptor_of_matched {d : RawDescriptor} (h : d.Ranged) (k : d.Matched) :
    checkDescriptor d = .ok d.spelled := by
  simp [checkDescriptor, (descriptorInRange_iff d).mpr h, (descriptorMatchesKind_iff d).mpr k,
    buildDescriptor_of_ranged h]

/-- Fields that pass the checks spell a descriptor in its ranges. -/
theorem spelled_sound {d : RawDescriptor} (h : d.Ranged) (k : d.Matched) : d.spelled.Sound := by
  obtain ⟨⟨-, hnominal⟩, hfrequency, hlow, hhigh, htolerance, -, hforce, hraised, -, -, hbudget, hconfirm, hdeviation,
    -⟩ := h
  refine ⟨hnominal, hlow, hhigh, hforce, hraised, hbudget, hconfirm, hdeviation, fun ac => ?_, fun dc => k.2 ?_⟩
  · have zero : d.kind = 0 := by
      by_contra ne
      simp [RawDescriptor.spelled, ne] at ac
    obtain ⟨f, hf⟩ := Option.ne_none_iff_exists'.mp (k.1 zero).1
    obtain ⟨w, hw⟩ := Option.ne_none_iff_exists'.mp (k.1 zero).2
    exact ⟨f, w, hf, (hfrequency f hf).1, (hfrequency f hf).2, hw, htolerance w hw⟩
  · intro zero
    simp [RawDescriptor.spelled, zero] at dc

/-- A descriptor that comes out of the checks of R3 is in its ranges. -/
theorem checkDescriptor_sound {d : RawDescriptor} {e : Descriptor} (h : checkDescriptor d = .ok e) : e.Sound := by
  by_cases ranged : d.Ranged
  · by_cases matched : d.Matched
    · rw [checkDescriptor_of_matched ranged matched] at h
      cases h
      exact spelled_sound ranged matched
    · rw [checkDescriptor_of_not_matched ranged matched] at h
      cases h
  · rw [checkDescriptor_of_not_ranged ranged] at h
    cases h

/-! ### The writers of the table: a load and DESCRIBE_SYSTEM -/

theorem descriptorOf_sound {l : List Nat} {d : Descriptor} (h : descriptorOf l = some d) : d.Sound := by
  unfold descriptorOf at h
  split at h
  · split at h
    · next e => cases h; exact checkDescriptor_sound e
    · cases h
  · cases h

/-- The table of a Descriptor section holds only descriptors that pass the checks of R3 (R7, R201). -/
theorem descriptorsOf_sound (content : Option (List Nat)) : TableSound (descriptorsOf content) := by
  unfold descriptorsOf
  refine List.foldlRecOn _ _ TableSound.empty fun v hv r _ => ?_
  split
  · split
    · next d _ e => exact hv.put _ fun d' hd => by cases hd; exact descriptorOf_sound e
    · exact hv
  · exact hv

theorem State.writeInForce_descriptors (s : State) (p : PanId) (f : Profile) :
    (s.writeInForce p f).store.descriptors = s.store.descriptors := rfl

theorem State.checkPan_descriptors (k : StartKind) (s : State) (p : PanId) :
    (State.checkPan k s p).store.descriptors = s.store.descriptors := by
  unfold State.checkPan
  split <;> rfl

/-- A load leaves the table of its Descriptor section, cold or warm (R7). -/
theorem State.load_descriptors (s : State) (t : Sections) :
    (s.load t).store.descriptors = descriptorsOf t.descriptor := by
  unfold State.load
  cases s.loader.kind <;> simp [State.recomputeBase, State.checkPan_descriptors, State.writeInForce_descriptors] <;> rfl

theorem Sys.beginBlocks_descriptors (y : Sys) : y.beginBlocks.st.store.descriptors = y.st.store.descriptors := rfl

theorem Sys.raiseInvalid_descriptors (y : Sys) (r : Reading) :
    (y.raiseInvalid r).st.store.descriptors = y.st.store.descriptors := by
  unfold Sys.raiseInvalid
  split <;> simp

theorem Sys.finishLoad_sound (y : Sys) (r : Reading) (h : TableSound y.st.store.descriptors) :
    TableSound (y.finishLoad r).st.store.descriptors := by
  unfold Sys.finishLoad
  split
  · have written := State.load_descriptors { y.st with loader := y.st.loader.finished r } r.sections
    rw [Sys.beginBlocks_descriptors, Sys.raiseInvalid_descriptors]
    exact written ▸ descriptorsOf_sound _
  all_goals exact h

theorem Sys.describeSystem_sound (y : Sys) (c : Call) (f : DescribeFields) (h : TableSound y.st.store.descriptors) :
    TableSound (y.describeSystem c f).st.store.descriptors := by
  unfold Sys.describeSystem
  split
  · exact h
  · next i _ =>
    dsimp only
    split
    · exact h
    · next d e =>
      split
      · exact h
      · rw [Sys.descriptorChanged_descriptors]
        refine h.put i fun d' hd => ?_
        subst hd
        cases content : f.content with
        | none => simp [content] at e
        | some raw =>
          cases checked : checkDescriptor raw with
          | error r => simp [content, checked, Except.map] at e
          | ok d =>
            simp [content, checked, Except.map] at e
            exact e ▸ checkDescriptor_sound checked

end Sys2Proof.Machine
end

section
/-! The invariant of the descriptor table: every command goes on, and keeps it sound. -/

namespace Sys2Proof.Machine

/-! ### Every step keeps the table sound -/

section
variable {s : State}

/-- The outcome of a command goes on, with a sound descriptor table. -/
def GoesOnSound (o : Outcome) : Prop := ∃ t, o = .next t ∧ t.descriptorsSound

/-- A step whose event keeps the table sound does. -/
theorem State.run_sound {event : Sys → Sys} (hs : s.descriptorsSound)
    (h : ∀ y : Sys, TableSound y.st.store.descriptors → TableSound (event y).st.store.descriptors) :
    (s.run event).descriptorsSound := by
  rw [State.descriptorsSound_iff, State.run_descriptors]
  exact h _ hs

theorem GoesOnSound.run {event : Sys → Sys} (hs : s.descriptorsSound)
    (h : ∀ y : Sys, (event y).st.store.descriptors = y.st.store.descriptors) : GoesOnSound (.next (s.run event)) :=
  ⟨_, rfl, State.run_sound hs fun y k => (h y).symm ▸ k⟩

theorem GoesOnSound.runJob {event : Sys → Sys} (hs : s.descriptorsSound)
    (h : ∀ y : Sys, (event y).st.store.descriptors = y.st.store.descriptors) :
    GoesOnSound (.next (s.runJob event)) := by
  unfold State.runJob
  split
  · exact .run hs h
  · exact ⟨s, rfl, hs⟩

/-- A request keeps the table sound where its owner does; what LNK decides does not touch it. -/
theorem GoesOnSound.request_of_sound {α : Type} {code tag : Byte} {always : Bool} {body : Body α} {mask : α → Nat}
    {owner : Sys → Call → α → Sys} (hs : s.descriptorsSound)
    (h : ∀ (y : Sys) (c : Call) (f : α), TableSound y.st.store.descriptors →
      TableSound (owner y c f).st.store.descriptors) :
    GoesOnSound (.next (s.run fun y => y.request code tag always body mask owner)) := by
  refine ⟨_, rfl, State.run_sound hs fun y k => ?_⟩
  unfold Sys.request
  dsimp only
  repeat' split
  case h_2 f =>
    unfold Sys.letIn
    repeat' split
    case isFalse.isFalse => exact h _ _ f k
    all_goals exact k
  all_goals exact k

/-- A request whose owner leaves the table as it was keeps it sound. -/
theorem GoesOnSound.request {α : Type} {code tag : Byte} {always : Bool} {body : Body α} {mask : α → Nat}
    {owner : Sys → Call → α → Sys} (hs : s.descriptorsSound)
    (h : ∀ (y : Sys) (c : Call) (f : α), (owner y c f).st.store.descriptors = y.st.store.descriptors) :
    GoesOnSound (.next (s.run fun y => y.request code tag always body mask owner)) :=
  .request_of_sound hs fun y c f k => (h y c f).symm ▸ k

/-- Every request, by its owner. -/
theorem execFrame_goesOnSound (i : Instr) (hs : s.descriptorsSound) : GoesOnSound (execFrame i s) := by
  cases i
  case describeSystem => exact .request_of_sound hs Sys.describeSystem_sound
  case restart => exact .request hs fun y c _ => Sys.warmRestart_descriptors (y.answer c _) _
  case stageProfile => exact .request hs Sys.stageProfile_descriptors
  case apply => exact .request hs Sys.apply_descriptors
  case readSystem => exact .request hs Sys.readSystem_descriptors
  case announce => exact .request hs Sys.announce_descriptors
  case withdraw => exact .request hs Sys.withdraw_descriptors
  case markerSetup => exact .request hs Sys.markerSetup_descriptors
  case raise => exact .request hs Sys.raise_descriptors
  case lower => exact .request hs Sys.lower_descriptors
  case drop => exact .request hs Sys.drop_descriptors
  case resetTrip => exact .request hs Sys.resetTrip_descriptors
  case readPan => exact .request hs Sys.readPan_descriptors
  case connect => exact .request hs Sys.connect_descriptors
  case isolate => exact .request hs fun y c _ => y.isolate_descriptors c
  case setAuto => exact .request hs Sys.setAuto_descriptors
  case clearPath => exact .request hs fun y c _ => y.clearPath_descriptors c
  case zoneMode => exact .request hs Sys.zoneMode_descriptors
  case iceLevel => exact .request hs Sys.iceLevel_descriptors
  case startProgram => exact .request hs Sys.startProgram_descriptors
  case stopProgram => exact .request hs Sys.stopProgram_descriptors
  case gate => exact .request hs Sys.gate_descriptors
  case resetCounts => exact .request hs fun y c _ => y.resetCounts_descriptors c
  case qualitySetup => exact .request hs Sys.qualitySetup_descriptors
  case injectArc => exact .request hs Sys.injectArc_descriptors
  case ackFault => exact .request hs Sys.ackFault_descriptors
  case preload => exact .request hs Sys.preload_descriptors
  case outputMode => exact .request hs Sys.outputMode_descriptors
  case start => exact .request hs fun y c _ => y.startRequest_descriptors c
  case unknownTypeFrame tag type => exact .run hs fun y => y.unknownType_descriptors type tag
  case identify | status | readProfile | readLine | readAnnouncements | readOdometer | readPath | readIce | readQuality
      | readFaults | sample =>
    exact .request hs fun _ _ _ => rfl
  all_goals exact ⟨s, rfl, hs⟩

theorem GoesOnSound.finishLoad (r : Reading) (hs : s.descriptorsSound) :
    GoesOnSound (.next (s.run fun y => y.finishLoad r)) :=
  ⟨_, rfl, State.run_sound hs fun y k => y.finishLoad_sound r k⟩

theorem State.resetReleased_descriptors (s : State) : s.resetReleased.store.descriptors = s.store.descriptors := by
  unfold State.resetReleased
  dsimp only
  split <;> rfl

theorem State.setInterlockLine_descriptors (s : State) (k : InterlockInput) (b : Bool) :
    (s.setInterlockLine k b).store.descriptors = s.store.descriptors := by cases k <;> rfl

/-- Every command: a request by its owner, an event by its rule, and a start from an empty table. -/
theorem exec_goesOnSound (i : Instr) (hs : s.descriptorsSound) : GoesOnSound (exec i s) := by
  have frame := execFrame_goesOnSound i hs
  cases i
  case powerOn => exact ⟨_, rfl, TableSound.empty⟩
  case resetLineAsserted => exact ⟨_, rfl, TableSound.empty⟩
  case resetLineReleased =>
    exact ⟨_, rfl, (State.descriptorsSound_iff _).mpr (s.resetReleased_descriptors.symm ▸ hs)⟩
  case flashReadyTimeout => exact .finishLoad _ hs
  case imageReadTimeout => exact .finishLoad _ hs
  case loadEnd image => exact .finishLoad _ hs
  case badCheckFrame | frameOverrun | frameGapExpiry | framingErrorByte | linkBreakEnd | frameSent =>
    exact ⟨_, rfl, hs⟩
  case linkBreakDetected => exact .run hs Sys.linkBreak_descriptors
  case receivedByte byte =>
    show GoesOnSound (execReceivedByte byte s)
    unfold execReceivedByte
    dsimp only
    split
    · exact ⟨_, rfl, hs⟩
    · exact execFrame_goesOnSound (s := { s with link := _ }) _ hs
  case windowCompletion samples =>
    show GoesOnSound (.next (if (s.setBus (samples.get 79)).loaded then _ else _))
    split
    · exact .run (s := s.setBus (samples.get 79)) hs fun y => y.completeWindow_descriptors samples.toList
    · exact ⟨_, rfl, hs⟩
  case wheelPulse => exact .run hs Sys.wheelPulse_descriptors
  case speedRecompute => exact .run hs Sys.speedRecompute_descriptors
  case telegram t => exact .run hs fun y => y.takeTelegram_descriptors t
  case panInputChange p k level =>
    exact .runJob (s := s.setPanLine p k level) hs fun y => y.takePanInput_descriptors p k level
  case raiseTimeout p => exact .runJob hs fun y => y.raiseTimeout_descriptors p
  case lowerTimeout p => exact .runJob hs fun y => y.lowerTimeout_descriptors p
  case dropTimeout p => exact .runJob hs fun y => y.dropTimeout_descriptors p
  case dipPulseEnd p => exact .runJob hs fun y => y.dipPulseEnd_descriptors p
  case dipRegainExpiry p => exact .runJob hs fun y => y.dipRegainExpiry_descriptors p
  case breakerFeedbackChange closed => exact .runJob (s := s.setBreakerLine closed) hs Sys.breakerEvent_descriptors
  case selectorFeedbackChange position =>
    exact .runJob (s := s.setSelectorLine position) hs Sys.selectorEvent_descriptors
  case selectorMoveTimeout => exact .runJob hs Sys.selectorMoveTimeout_descriptors
  case closeFeedbackTimeout => exact .runJob hs Sys.closeFeedbackTimeout_descriptors
  case openFeedbackTimeout => exact .runJob hs Sys.openFeedbackTimeout_descriptors
  case awaitLineLimitExpiry => exact .runJob hs Sys.awaitLineLimit_descriptors
  case lossCoastLimitExpiry => exact .runJob hs Sys.lossCoastLimit_descriptors
  case interlockChange k level =>
    exact .run (s := s.setInterlockLine k level)
      ((State.descriptorsSound_iff _).mpr ((s.setInterlockLine_descriptors k level).symm ▸ hs))
      fun y => y.takeInterlock_descriptors k level
  case temperatureSample reading =>
    exact .runJob (s := s.setAmbientLine reading) hs fun y => y.evaluateIf_descriptors _ _
  case precipitationChange wet => exact .runJob (s := s.setWetLine wet) hs fun y => y.evaluateIf_descriptors _ _
  case heaterFeedbackChange z closed =>
    exact .runJob (s := s.setContactorLine z closed) hs fun y => y.takeHeaterFeedback_descriptors z closed
  case feedbackCheckExpiry z => exact .runJob hs fun y => y.feedbackCheckExpiry_descriptors z
  case heatComplete p => exact .runJob hs fun _ => (Sys.reach_heatComplete p .refl).descriptors
  case dipWaitExpiry p => exact .runJob hs fun _ => (Sys.reach_dipWaitExpiry p .refl).descriptors
  case arcSample pulse =>
    show GoesOnSound (.next (if s.jobsRun then _ else _))
    split
    · exact .run (s := s.setArcLine false) hs fun _ => rfl
    · exact ⟨_, rfl, hs⟩
  case qualityWindowEnd p => exact .runJob hs fun y => y.windowEnd_descriptors p
  case reportPeriodEnd => exact .runJob hs Sys.periodEnd_descriptors
  case backfeedWatchSample => exact .run hs Sys.sampleWatch_descriptors
  case driveExitExpiry => exact .run hs Sys.driveExit_descriptors
  all_goals exact frame

theorem State.tick_descriptors (s : State) : s.tick.store.descriptors = s.store.descriptors := by
  unfold State.tick
  dsimp only
  split <;> rfl

/-- A step runs the front command, or lets a millisecond pass. -/
theorem step_goesOnSound (hs : s.descriptorsSound) : GoesOnSound (step s) := by
  unfold step
  split
  · exact ⟨_, rfl, (State.descriptorsSound_iff _).mpr (s.tick_descriptors.symm ▸ hs)⟩
  · exact exec_goesOnSound (s := { s with pending := _ }) _ hs

end

/-- Settles O59: the table is written by a load and by DESCRIBE_SYSTEM, each with what the checks of R3 let through, and
emptied by a cold start; every other command leaves it as it was. -/
theorem everyStepKeepsTheDescriptorsInRange : Obligations.EveryStepKeepsTheDescriptorsInRange := by
  intro s t hs hstep
  obtain ⟨u, hu, sound⟩ := step_goesOnSound hs
  cases hu.symm.trans hstep
  exact sound

end Sys2Proof.Machine
end

section
/-! DESCRIBE_SYSTEM, check by check, and what LSR and CHG do with a changed index (R3 to R5, R36). -/

namespace Sys2Proof.Machine

/-! ### The end of a step with one notice at most, and a request that is only answered -/

theorem Sys.settleWithin_quiet (k : Nat) (y : Sys) (h : y.todo = []) : y.settleWithin k = y.st := by
  cases k with
  | zero => rfl
  | succ k =>
    unfold Sys.settleWithin
    rw [h]
    rfl

/-- A single notice that moves nothing leaves the step to end with the checks alone. -/
theorem Sys.settle_unmoved {s : State} {t : Told} (n : Notice)
    (h : Sys.take { st := s, todo := [], told := t } n = { st := s, todo := [], told := t }) :
    Sys.settle { st := s, todo := [n], told := t } = s.recheck := by
  have last : withoutLane n.lane [n] = [] := by simp [withoutLane]
  have taken : Sys.settleWithin 600 { st := s, todo := [n], told := t } = s := by
    unfold Sys.settleWithin
    simp only [choose, ready, List.contains_nil, Bool.false_eq_true, if_false, last]
    rw [h, ite_self]
    exact Sys.settleWithin_quiet _ _ rfl
  unfold Sys.settle
  rw [taken]

/-- A request that its owner only answers leaves its answer. -/
theorem State.serve_answered {α : Type} {s : State} {code tag : Byte} {f : α} {owner : Sys → Call → α → Sys}
    (r : Result) (h : s.ready)
    (answers : owner { st := s.heard, todo := [] } { code := code, tag := tag } f
      = Sys.answer { st := s.heard, todo := [] } { code := code, tag := tag } r) :
    s.serve code tag (.fields f) owner = s.answered code tag r := by
  rw [State.serve_owner _ _ _ _ h.1 h.2.1, answers]
  exact State.settle_answer _ r _ h.2.2

/-- While a load runs a request is answered NOT_READY (R187). -/
theorem State.serve_notReady {α : Type} {s : State} (code tag : Byte) (f : α) (owner : Sys → Call → α → Sys)
    (h : s.receives) (k : s.loaded = false) : s.serve code tag (.fields f) owner = s.answered code tag .notReady := by
  have idle : s.jobsRun = false := by simp [State.jobsRun, k]
  have waits : s.heard.loaded = false := k
  unfold State.serve
  rw [State.run_request_fields _ _ _ _ _ _ h]
  simp only [Sys.letIn, waits, Bool.not_false, Bool.and_true, if_true]
  exact State.settle_answer _ .notReady _ (State.recheck_of_idle s idle)

/-! ### The use of an index (R4) -/

/-- An index is named by a profile, by the path, or, outside ISOLATED, by the candidate. -/
def State.Names (s : State) (i : SysId) : Prop :=
  (∃ p : PanId, (s.pan p).inForce.system = some i ∨ (s.store.active.get p).system = some i)
    ∨ s.path.target = some i ∨ s.path.state.next = some i
    ∨ (s.sense.latest.candidate = .system i ∧ s.path.state ≠ .isolated)

theorem State.protection_any_iff (s : State) (i : SysId) : (s.protection i).any = true ↔ s.Names i := by
  have some_pan (f : PanId → Bool) : allPans.any f = true ↔ ∃ p, f p = true :=
    List.any_eq_true.trans ⟨fun ⟨p, _, h⟩ => ⟨p, h⟩, fun ⟨p, h⟩ => ⟨p, mem_allPans p, h⟩⟩
  simp only [Protection.any, State.protection, State.Names, Bool.or_eq_true, Bool.and_eq_true, decide_eq_true_eq,
    some_pan, exists_or, or_assoc]

/-! ### Systems by their numbers -/

theorem systemOf_of_outside {n : Nat} (h : n = 0 ∨ 8 < n) : systemOf n = none := by
  rcases h with rfl | h
  · rfl
  · have beyond : allSystems.length ≤ n - 1 := Nat.le_sub_one_of_lt h
    simp [systemOf, List.getElem?_eq_none beyond]

theorem systemOf_number (i : SysId) : systemOf (i.val + 1) = some i := by
  revert i
  decide

/-! ### LSR and a changed index (R36) -/

/-- An index is LSR's candidate, its record's system or its run's. -/
def Sense.Holds (m : Sense) (i : SysId) : Prop :=
  m.latest.candidate = .system i ∨ m.record.reported = some i ∨ ∃ n, m.record = .acquiring (some i) n

/-- A change of an index that LSR does not hold leaves it as it is. -/
theorem Sys.descriptorChanged_of_not_holds {y : Sys} {i : SysId} (h : ¬y.st.sense.Holds i) :
    y.descriptorChanged i = y := by
  simp only [Sense.Holds, not_or, not_exists] at h
  obtain ⟨candidate, reported, runs⟩ := h
  unfold Sys.descriptorChanged
  cases record : y.st.sense.record with
  | dead => simp [candidate]
  | acquiring run n =>
    have other : run ≠ some i := fun e => runs n (by rw [record, e])
    simp [candidate, other]
  | recognized j | suspect j =>
    have other : j ≠ i := fun e => reported (by rw [record, e]; rfl)
    simp [candidate, other]

/-- A change of an index that LSR holds restarts its acquisition; a system that it reported is lost. -/
theorem Sys.descriptorChanged_of_holds {y : Sys} {i : SysId} (h : y.st.sense.Holds i) :
    y.descriptorChanged i = y.setRecord (.acquiring none 0) .descriptor y.st.sense.record.reported
      (y.st.sense.record.reported.toList.map .lost) := by
  unfold Sense.Holds at h
  unfold Sys.descriptorChanged
  cases record : y.st.sense.record with
  | dead =>
    have candidate : y.st.sense.latest.candidate = .system i := by simpa [record, LineRecord.reported] using h
    exact if_pos candidate
  | acquiring run n =>
    have named : y.st.sense.latest.candidate = .system i ∨ run = some i := by
      simpa [record, LineRecord.reported] using h
    exact if_pos named
  | recognized j | suspect j =>
    have named : y.st.sense.latest.candidate = .system i ∨ j = i := by
      simpa [record, LineRecord.reported] using h
    exact if_pos named

/-- A record's new value is posted at most, and its events are sent. -/
theorem Sys.setRecord_eq (y : Sys) (r : LineRecord) (c : LineCause) (lost : Option SysId) (l : List Notice) :
    ∃ rs : List Report, y.setRecord r c lost l
      = { y with
          st := { y.st with link := y.st.link.posts rs, sense := { y.st.sense with record := r } }
          todo := y.todo ++ l } := by
  unfold Sys.setRecord
  dsimp only
  split
  · exact ⟨[], rfl⟩
  · exact ⟨[_], rfl⟩

/-- Without a recognized system CHG's test of the closing condition moves nothing (R89). -/
theorem Sys.testClosing_of_acquiring {y : Sys} {run : Option SysId} {n : Nat} (w : PathEvent)
    (h : y.st.sense.record = .acquiring run n) : y.testClosing w = y := by
  have unrecognized : y.st.closing.holds = false := by
    simp [ClosingParts.holds, State.closing, State.recognizes, h]
  simp [Sys.testClosing, unrecognized]

/-- CHG is not moved by the loss of a system that is not its target, nor in ISOLATED (R97, R98). -/
theorem Sys.takeLost_unmoved {y : Sys} {j : SysId} {run : Option SysId} {n : Nat}
    (h : y.st.sense.record = .acquiring run n) (k : y.st.path.state = .isolated ∨ y.st.path.target ≠ some j) :
    y.takeLost j = y := by
  unfold Sys.takeLost
  split
  · next e => rw [if_neg (k.resolve_left (by simp [e]))]
  · next e => rw [if_neg (k.resolve_left (by simp [e]))]
  · exact Sys.testClosing_of_acquiring _ h

/-! ### DESCRIBE_SYSTEM (R3 to R5) -/

/-- The checks 2 and 3 of R3 pass: an empty entry has none. -/
def DescribePasses (f : DescribeFields) : Prop := ∀ d, f.content = some d → d.Ranged ∧ d.Matched

section
variable {y : Sys} {c : Call} {f : DescribeFields} {i : SysId}

theorem Sys.describeSystem_of_outside (h : f.index = 0 ∨ 8 < f.index) : y.describeSystem c f = y.refuse c .badIndex := by
  simp only [Sys.describeSystem, systemOf_of_outside h]

theorem Sys.describeSystem_of_not_ranged {d : RawDescriptor} (hi : f.index = i.val + 1) (hd : f.content = some d)
    (h : ¬d.Ranged) : y.describeSystem c f = y.refuse c .outOfRange := by
  simp only [Sys.describeSystem, hi, systemOf_number, hd, checkDescriptor_of_not_ranged h, Except.map]

theorem Sys.describeSystem_of_not_matched {d : RawDescriptor} (hi : f.index = i.val + 1) (hd : f.content = some d)
    (h : d.Ranged) (k : ¬d.Matched) : y.describeSystem c f = y.refuse c .fieldMismatch := by
  simp only [Sys.describeSystem, hi, systemOf_number, hd, checkDescriptor_of_not_matched h k, Except.map]

/-- Fields that pass the checks go on to the test of the use, and are written where it passes. -/
theorem Sys.describeSystem_of_passes (hi : f.index = i.val + 1) (h : DescribePasses f) :
    y.describeSystem c f = if (y.st.protection i).any then y.refuse c .inUse
      else ((y.edit fun s => s.describe i (f.content.map RawDescriptor.spelled)).answer c (.ok .nothing)).descriptorChanged
        i := by
  unfold Sys.describeSystem
  simp only [hi, systemOf_number]
  cases e : f.content with
  | none => rfl
  | some d => simp only [checkDescriptor_of_matched (h d e).1 (h d e).2, Except.map, Option.map_some]

end

/-- The state after an accepted DESCRIBE_SYSTEM, with the reports it posts and the sense it leaves. -/
def State.described (s : State) (tag : Byte) (i : SysId) (d : Option Descriptor) (rs : List Report) (m : Sense) : State :=
  { s with
    link := (s.answered 0x0B tag (.ok .nothing)).link.posts rs
    sense := m
    store := { s.store with descriptors := put s.store.descriptors i d } }

/-- The checks at a step's end look at nothing that DESCRIBE_SYSTEM writes. -/
theorem State.described_steady {s : State} (h : s.steady) (tag : Byte) (i : SysId) (d : Option Descriptor)
    (rs : List Report) (m : Sense) : (s.described tag i d rs m).recheck = s.described tag i d rs m := by
  have same : (s.described tag i d rs m).recheck
      = { s.described tag i d rs m with ice := s.recheck.ice } := by
    unfold State.recheck
    have jobs : (s.described tag i d rs m).jobsRun = s.jobsRun := rfl
    rw [jobs]
    split <;> rfl
  rw [same, h]
  rfl

/-- An accepted DESCRIBE_SYSTEM of an index that LSR does not hold writes its entry. -/
theorem State.serve_describe_of_not_holds {s : State} {f : DescribeFields} {i : SysId} (tag : Byte) (hs : s.ready)
    (hi : f.index = i.val + 1) (pass : DescribePasses f) (free : ¬s.Names i) (h : ¬s.sense.Holds i) :
    s.serve 0x0B tag (.fields f) Sys.describeSystem
      = s.described tag i (f.content.map RawDescriptor.spelled) [] s.sense := by
  have unused : ¬(s.heard.protection i).any = true := mt (State.protection_any_iff s i).mp free
  rw [State.serve_owner _ _ _ _ hs.1 hs.2.1, Sys.describeSystem_of_passes hi pass, if_neg unused,
    Sys.descriptorChanged_of_not_holds h, Sys.settle_quiet _ rfl]
  exact State.described_steady hs.2.2 tag i _ [] s.sense

/-- An accepted DESCRIBE_SYSTEM of an index that LSR holds writes its entry and restarts the acquisition. CHG, which is told
of a loss, does not move: its target is another system, or it stands in ISOLATED. -/
theorem State.serve_describe_of_holds {s : State} {f : DescribeFields} {i : SysId} (tag : Byte) (hs : s.ready)
    (hi : f.index = i.val + 1) (pass : DescribePasses f) (free : ¬s.Names i) (h : s.sense.Holds i) :
    ∃ rs : List Report, s.serve 0x0B tag (.fields f) Sys.describeSystem
      = s.described tag i (f.content.map RawDescriptor.spelled) rs { s.sense with record := .acquiring none 0 } := by
  have unused : ¬(s.heard.protection i).any = true := mt (State.protection_any_iff s i).mp free
  rw [State.serve_owner _ _ _ _ hs.1 hs.2.1, Sys.describeSystem_of_passes hi pass, if_neg unused,
    Sys.descriptorChanged_of_holds h]
  obtain ⟨rs, e⟩ := Sys.setRecord_eq
    (((({ st := s.heard, todo := [] } : Sys).edit fun s => s.describe i (f.content.map RawDescriptor.spelled)).answer
      { code := 0x0B, tag := tag } (.ok .nothing))) (.acquiring none 0) .descriptor s.sense.record.reported
    (s.sense.record.reported.toList.map .lost)
  refine ⟨rs, (congrArg Sys.settle e).trans ?_⟩
  have steady := State.described_steady hs.2.2 tag i (f.content.map RawDescriptor.spelled) rs
    { s.sense with record := .acquiring none 0 }
  cases reported : s.sense.record.reported with
  | none => exact (Sys.settle_quiet _ rfl).trans steady
  | some j =>
    refine (Sys.settle_unmoved (.lost j) (Sys.takeLost_unmoved rfl ?_)).trans steady
    simp only [State.Names, not_or, not_and, not_not] at free
    obtain ⟨-, target, -, candidate⟩ := free
    obtain latest | record | ⟨n, run⟩ := h
    · exact .inl (candidate latest)
    · cases reported.symm.trans record
      exact .inr target
    · simp [run, LineRecord.reported] at reported

/-- Settles O16, check by check, and then by whether LSR holds the index. -/
theorem describeSystemWritesTheEntry : Obligations.DescribeSystemWritesTheEntry := by
  refine ⟨fun tag f s hs k => ?_, fun tag f s hs => ⟨fun outside => ?_, fun i hi => ⟨fun d hd h => ?_, fun d hd h k => ?_,
    fun pass used => ?_⟩⟩, fun tag f i s hs hi pass free => ?_⟩
  · exact congrArg Host.Outcome.next (State.serve_notReady 0x0B tag f _ hs k)
  · exact congrArg Host.Outcome.next (State.serve_answered _ hs (Sys.describeSystem_of_outside outside))
  · exact congrArg Host.Outcome.next (State.serve_answered _ hs (Sys.describeSystem_of_not_ranged hi hd h))
  · exact congrArg Host.Outcome.next (State.serve_answered _ hs (Sys.describeSystem_of_not_matched hi hd h k))
  · have inUse : (s.heard.protection i).any = true := (State.protection_any_iff s i).mpr used
    exact congrArg Host.Outcome.next
      (State.serve_answered _ hs ((Sys.describeSystem_of_passes hi pass).trans (if_pos inUse)))
  · by_cases h : s.sense.Holds i
    · obtain ⟨rs, e⟩ := State.serve_describe_of_holds tag hs hi pass free h
      exact ⟨_, rs, congrArg Host.Outcome.next e, rfl, ⟨fun _ => rfl, fun k => absurd h k⟩, rfl⟩
    · exact ⟨_, [], congrArg Host.Outcome.next (State.serve_describe_of_not_holds tag hs hi pass free h), rfl,
        ⟨fun k => absurd k h, fun _ => rfl⟩, rfl⟩

end Sys2Proof.Machine
end

section
/-! A telegram of the coil reader, as what it does to MKR's state and which reports it posts (R41, R42, R45). -/

namespace Sys2Proof.Machine

/-! ### What an offer to the queue leaves as it was (R47, R48) -/

section
variable (m : Marker) (what : Announced) (trigger : Nat) (source : Source)

/-- MKR's state has become `n`, and of its fields only the queue and the id counter may have moved. -/
def Marker.QueueMoved (m n : Marker) : Prop := n = { m with queue := n.queue, nextId := n.nextId }

theorem Marker.refresh_moves_queue (old : Announcement) : m.QueueMoved (m.refresh old trigger source).marker := rfl

theorem Marker.offerNew_moves_queue : m.QueueMoved (m.offerNew what trigger source).marker := by
  unfold Marker.offerNew
  dsimp only
  repeat' split
  all_goals rfl

theorem Marker.offer_moves_queue : m.QueueMoved (m.offer what trigger source).marker := by
  unfold Marker.offer
  dsimp only
  split
  · exact m.refresh_moves_queue _ _ _
  · exact m.offerNew_moves_queue _ _ _

/-- An offer holds its trigger at the largest position itself (R46). -/
theorem Marker.offer_held : m.offer what (min odometerEnd trigger) source = m.offer what trigger source := by
  unfold Marker.offer
  rw [← Nat.min_assoc, Nat.min_self]

end

/-! ### MKR's state after a pair (R41, R42, R45) -/

section
variable (m : Marker) (p : Pair)

/-- A good telegram is counted, and its pair joins the history (R41, R42). -/
def Marker.addPair : Marker := { m with telegrams := sat16 (m.telegrams + 1), history := pushPair m.history p }

/-- A declared pair is held and counted (R42). -/
def Marker.holdPair : Marker :=
  { m with declared := some { pair := p, position := m.odometer }, declarations := sat16 (m.declarations + 1) }

/-- MKR has acted on a declared pair (R45). -/
def Marker.actOn : Marker :=
  match m.map.get p.code with
  | none => { m.holdPair p with unmapped := sat16 (m.unmapped + 1) }
  | some what => ((m.holdPair p).offer what (m.odometer + p.distance) .wayside).marker

/-- MKR has taken the pair of a good telegram. -/
def Marker.takePair : Marker := if (m.addPair p).declares p = false then m.addPair p else (m.addPair p).actOn p

variable {m p}

theorem Marker.actOn_of_unmapped (h : m.map.get p.code = none) :
    m.actOn p = { m.holdPair p with unmapped := sat16 (m.unmapped + 1) } := by
  simp only [Marker.actOn, h]

theorem Marker.actOn_of_mapped {what : Announced} (h : m.map.get p.code = some what) :
    m.actOn p = ((m.holdPair p).offer what (m.odometer + p.distance) .wayside).marker := by
  simp only [Marker.actOn, h]

variable (m p)

/-- Acting on a declared pair moves neither the counts of telegrams nor the history. -/
theorem Marker.actOn_frame : (m.actOn p).telegrams = m.telegrams ∧ (m.actOn p).parityErrors = m.parityErrors
    ∧ (m.actOn p).history = m.history := by
  cases mapped : m.map.get p.code with
  | none =>
    rw [Marker.actOn_of_unmapped mapped]
    exact ⟨rfl, rfl, rfl⟩
  | some what =>
    rw [Marker.actOn_of_mapped mapped, (m.holdPair p).offer_moves_queue what (m.odometer + p.distance) .wayside]
    exact ⟨rfl, rfl, rfl⟩

theorem Marker.takePair_frame : (m.takePair p).telegrams = sat16 (m.telegrams + 1)
    ∧ (m.takePair p).parityErrors = m.parityErrors ∧ (m.takePair p).history = pushPair m.history p := by
  unfold Marker.takePair
  split
  · exact ⟨rfl, rfl, rfl⟩
  · exact (m.addPair p).actOn_frame p

/-- A pair is declared where the setting's count is reached and the last declared pair is another or none (R42). -/
theorem Marker.declares_eq :
    m.declares p = (m.validation.reached m.history p && decide (m.declared.map DeclaredPair.pair ≠ some p)) := by
  unfold Marker.declares
  cases m.declared <;> simp

end

/-! ### A telegram, as an event of MKR (R41) -/

theorem goodTelegram_iff (g : Telegram) : goodTelegram g = true ↔ g.framingError = false
    ∧ (onesIn 6 g.code.val + onesIn 8 g.distance.val + if g.parity then 1 else 0) % 2 = 0 := by
  simp [goodTelegram]

theorem goodTelegram_eq_false_iff (g : Telegram) : goodTelegram g = false ↔ g.framingError = true
    ∨ (onesIn 6 g.code.val + onesIn 8 g.distance.val + if g.parity then 1 else 0) % 2 = 1 := by
  rw [← Bool.not_eq_true, goodTelegram_iff, not_and_or, Bool.not_eq_false, Nat.mod_two_not_eq_zero]

section
variable (y : Sys) (g : Telegram)

/-- The event of a declared pair writes MKR's state and posts reports, and no more. -/
theorem Sys.declare_st (p : Pair) : ∃ rs : List Report,
    (y.declare p).st = { y.st with marker := y.st.marker.actOn p, link := y.st.link.posts rs } := by
  cases mapped : y.st.marker.map.get p.code with
  | none =>
    rw [Marker.actOn_of_unmapped mapped]
    refine ⟨[.marker (.unmapped p) y.st.marker.odometer], ?_⟩
    simp only [Sys.declare, mapped]
    rfl
  | some what =>
    rw [Marker.actOn_of_mapped mapped]
    let o := (y.st.marker.holdPair p).offer what (y.st.marker.odometer + p.distance) .wayside
    refine ⟨o.reports y.st.marker.odometer ++ [.marker (.declared p what
      (min odometerEnd (y.st.marker.odometer + p.distance)) o.outcome (o.entry.map Announcement.id))
      y.st.marker.odometer], ?_⟩
    simp only [Sys.declare, mapped, Marker.offer_held]
    simp [Sys.finishOffer, Sys.postAll_st, Link.posts, o, Marker.holdPair]

theorem Sys.takeTelegram_of_loading (h : y.st.loaded = false) : y.takeTelegram g = y := by
  simp [Sys.takeTelegram, h]

theorem Sys.takeTelegram_of_bad (h : y.st.loaded = true) (bad : goodTelegram g = false) : y.takeTelegram g
    = y.setMarker { y.st.marker with parityErrors := sat16 (y.st.marker.parityErrors + 1) } [] := by
  simp [Sys.takeTelegram, h, bad]

theorem Sys.takeTelegram_of_good (h : y.st.loaded = true) (good : goodTelegram g = true) : y.takeTelegram g
    = if (y.st.marker.addPair (pairOf g)).declares (pairOf g) = true
      then (y.setMarker (y.st.marker.addPair (pairOf g)) []).declare (pairOf g)
      else y.setMarker (y.st.marker.addPair (pairOf g)) [] := by
  simp only [Sys.takeTelegram, h, good, Bool.not_true, Bool.false_eq_true, if_false, if_true]
  rfl

/-- A good telegram's event writes MKR's state and posts reports, and no more. -/
theorem Sys.takeTelegram_st_of_good (h : y.st.loaded = true) (good : goodTelegram g = true) : ∃ rs : List Report,
    (y.takeTelegram g).st
      = { y.st with marker := y.st.marker.takePair (pairOf g), link := y.st.link.posts rs } := by
  rw [Sys.takeTelegram_of_good y g h good, Marker.takePair]
  cases (y.st.marker.addPair (pairOf g)).declares (pairOf g) with
  | false => exact ⟨[], rfl⟩
  | true => exact Sys.declare_st (y.setMarker (y.st.marker.addPair (pairOf g)) []) (pairOf g)

end

/-! ### A telegram, as a step -/

/-- The checks at a step's end look at nothing that MKR holds. -/
theorem State.recheck_marker (s : State) (m : Marker) :
    { s with marker := m }.recheck = { s.recheck with marker := m } := by
  unfold State.recheck
  have jobs : ({ s with marker := m } : State).jobsRun = s.jobsRun := rfl
  rw [jobs]
  split <;> rfl

section
variable {s : State} {g : Telegram}

/-- While a load runs no telegram is taken. -/
theorem State.run_telegram_of_loading (h : s.loaded = false) : s.run (fun y => y.takeTelegram g) = s := by
  refine (congrArg Sys.settle (Sys.takeTelegram_of_loading _ g h)).trans ((Sys.settle_quiet _ rfl).trans ?_)
  exact s.recheck_of_idle (by simp [State.jobsRun, h])

/-- A bad telegram is counted and dropped. -/
theorem State.run_telegram_of_bad (h : s.loaded = true) (bad : goodTelegram g = false) (k : s.steady) :
    s.run (fun y => y.takeTelegram g)
      = { s with marker := { s.marker with parityErrors := sat16 (s.marker.parityErrors + 1) } } := by
  refine (congrArg Sys.settle (Sys.takeTelegram_of_bad _ g h bad)).trans ((Sys.settle_quiet _ rfl).trans ?_)
  exact (s.recheck_marker _).trans (by rw [k])

/-- A good telegram's pair is taken, and the notices that follow post more reports and keep what no notice changes. -/
theorem State.run_telegram_of_good (h : s.loaded = true) (good : goodTelegram g = true) :
    (∃ rs : List Report, (s.run fun y => y.takeTelegram g).link = s.link.posts rs)
    ∧ (s.run fun y => y.takeTelegram g).still = { s.still with marker := s.marker.takePair (pairOf g) } := by
  obtain ⟨rs, event⟩ := Sys.takeTelegram_st_of_good { st := s, todo := [] } g h good
  have cascade : State.Reach { s with marker := s.marker.takePair (pairOf g), link := s.link.posts rs }
      (s.run fun y => y.takeTelegram g) := Sys.reach_settle (event ▸ .refl)
  obtain ⟨more, posted⟩ := cascade.link
  exact ⟨⟨rs ++ more, posted.trans (List.foldl_append ..).symm⟩, cascade.still⟩

theorem State.run_telegram_marker (h : s.loaded = true) (good : goodTelegram g = true) :
    (s.run fun y => y.takeTelegram g).marker = s.marker.takePair (pairOf g) :=
  congrArg Still.marker (State.run_telegram_of_good h good).2

end

/-- Settles O21: a telegram by its check, and a good one's pair by whether it is declared and its code mapped. -/
theorem telegramsAreCheckedCountedAndDeclared : Obligations.TelegramsAreCheckedCountedAndDeclared := by
  refine ⟨fun g s => ⟨fun loading => ?_, fun h bad k => ?_, fun h framing even => ?_⟩, fun g s h good => ?_⟩
  · exact congrArg Host.Outcome.next (State.run_telegram_of_loading loading)
  · exact congrArg Host.Outcome.next (State.run_telegram_of_bad h ((goodTelegram_eq_false_iff g).mpr bad) k)
  · have good : goodTelegram g = true := (goodTelegram_iff g).mpr ⟨framing, even⟩
    obtain ⟨⟨rs, posted⟩, still⟩ := State.run_telegram_of_good h good
    have marker := State.run_telegram_marker h good
    obtain ⟨telegrams, parityErrors, history⟩ := s.marker.takePair_frame (pairOf g)
    refine ⟨_, rs, rfl, posted, ?_, ?_, ?_, ?_⟩
    · exact (congrArg Marker.telegrams marker).trans telegrams
    · exact (congrArg Marker.parityErrors marker).trans parityErrors
    · refine ((congrArg Marker.history marker).trans history).trans ?_
      unfold pushPair
      split <;> simp [pairOf]
    · exact marker.symm ▸ still
  · refine ⟨_, rfl, (State.run_telegram_marker h good).trans ?_⟩
    have declares := (s.marker.addPair (pairOf g)).declares_eq (pairOf g)
    refine if_congr (iff_of_eq (congrArg (· = false) (declares.trans (congrArg (· && _) ?reached)))) rfl ?acted
    case reached =>
      unfold Validation.reached Marker.addPair
      dsimp only
      cases s.marker.validation <;> rfl
    case acted =>
      cases mapped : s.marker.map.get g.code with
      | none => exact Marker.actOn_of_unmapped (m := s.marker.addPair (pairOf g)) mapped
      | some what => exact Marker.actOn_of_mapped (m := s.marker.addPair (pairOf g)) mapped

end Sys2Proof.Machine
end

section
/-! The receive framer, one equation for each state that takes a byte (R185), the end of a frame in progress (R185,
R186, R192), and the check as a shift register fed bit by bit (R186). -/

namespace Sys2Proof.Machine

/-! ### A received byte (R185) -/

section
variable {l : Link} {b : Byte}

/-- In HUNT the byte 0xD3 opens a frame. -/
theorem Link.receive_of_hunt (listens : l.watch = .normal) (h : l.framer = .hunt) :
    l.receive b = (if b = 0xD3 then { l with framer := .length } else l, none) := by
  simp [Link.receive, listens, h]

/-- In LENGTH a byte from 2 to 250 is the length, and any other a check error. -/
theorem Link.receive_of_length (listens : l.watch = .normal) (h : l.framer = .length) :
    l.receive b
      = (if 2 ≤ b.toNat ∧ b.toNat ≤ 250 then { l with framer := .body b.toNat [] } else l.checkError, none) := by
  simp [Link.receive, listens, h, within_iff]

/-- In BODY the byte is held, and the last of the length's bytes ends the body. -/
theorem Link.receive_of_body {n : Nat} {held : List Byte} (listens : l.watch = .normal) (h : l.framer = .body n held) :
    l.receive b = ({ l with framer :=
      if held.length + 1 < n then .body n (held ++ [b]) else .check (held ++ [b]) none }, none) := by
  by_cases more : held.length + 1 < n
  · simp [Link.receive, listens, h, more, Nat.not_le.mpr more]
  · simp [Link.receive, listens, h, more, Nat.not_lt.mp more]

/-- In CHECK the first check byte is held. -/
theorem Link.receive_of_firstCheck {held : List Byte} (listens : l.watch = .normal)
    (h : l.framer = .check held none) : l.receive b = ({ l with framer := .check held (some b) }, none) := by
  simp [Link.receive, listens, h]

/-- In CHECK the second check byte brings in the frame's command, or drops the frame. -/
theorem Link.receive_of_lastCheck {type tag first : Byte} {body : List Byte} (listens : l.watch = .normal)
    (h : l.framer = .check (type :: tag :: body) (some first)) :
    l.receive b = if checkBytes (BitVec.ofNat 8 (body.length + 2)) (type :: tag :: body) = [first, b]
      then ({ l with framer := .hunt }, some (frameCommand type tag body)) else (l.checkError, none) := by
  simp [Link.receive, listens, h, heldCommand]

end

section
variable {s : State} {b : Byte} {l : Link}

/-- A byte that completes no frame moves the link alone. -/
theorem exec_receivedByte_of_link (h : s.link.receive b = (l, none)) :
    exec (.receivedByte b) s = .next { s with link := l } := by
  show execReceivedByte b s = _
  simp [execReceivedByte, h]

/-- A byte that completes a frame runs the frame's command on the link as the byte leaves it. -/
theorem exec_receivedByte_of_command {i : Instr} (h : s.link.receive b = (l, some i)) :
    exec (.receivedByte b) s = execFrame i { s with link := l } := by
  show execReceivedByte b s = _
  simp [execReceivedByte, h]

end

/-- The command that a frame spells has the same meaning as the same command taken by itself: row by row of the
catalogue (R197). -/
theorem execFrame_frameCommand (type tag : Byte) (body : List Byte) (s : State) :
    execFrame (frameCommand type tag body) s = exec (frameCommand type tag body) s := by
  unfold frameCommand
  split <;> rfl

/-! ### The end of a frame in progress (R185, R192) -/

theorem Framer.inProgress_of_ne_hunt {f : Framer} (h : f ≠ .hunt) : f.inProgress = true := by
  cases f with
  | hunt => exact absurd rfl h
  | length | body | check => rfl

theorem Link.ifListening_of_normal {l : Link} (f : Link → Link) (listens : l.watch = .normal) :
    l.ifListening f = f l := by
  simp [Link.ifListening, listens]

theorem Link.abandon_of_hunt {l : Link} (h : l.framer = .hunt) : l.abandon = l := by
  simp [Link.abandon, Framer.inProgress, h]

theorem Link.abandon_of_ne_hunt {l : Link} (h : l.framer ≠ .hunt) :
    l.abandon = { l with framer := .hunt, abandoned := min (l.abandoned + 1) 65535 } := by
  simp [Link.abandon, Framer.inProgress_of_ne_hunt h, sat16]

theorem State.onLink_eq {s : State} {f : Link → Link} {l : Link} (h : f s.link = l) :
    s.onLink f = { s with link := l } := by rw [State.onLink, h]

/-- A gap and a framing error do to the link what abandoning the frame in progress does, and no more. -/
theorem exec_gap_and_framingError_of_abandon {s : State} {l : Link} (listens : s.link.watch = .normal)
    (h : s.link.abandon = l) :
    exec .frameGapExpiry s = .next { s with link := l } ∧ exec .framingErrorByte s = .next { s with link := l } := by
  have gap : exec .frameGapExpiry s = .next (s.onLink Link.abandon) := rfl
  have framingError : exec .framingErrorByte s = .next (s.onLink (Link.ifListening Link.abandon)) := rfl
  rw [gap, framingError, State.onLink_eq h, State.onLink_eq ((Link.ifListening_of_normal _ listens).trans h)]
  exact ⟨rfl, rfl⟩

/-- LNK as a break of the receive line leaves it: the frame in progress is abandoned, and the break counted (R192). -/
def Link.broken (l : Link) : Link := { l.abandon with watch := .break_, breaks := sat16 (l.breaks + 1) }

/-- What follows a break posts reports, and does no more to the link. -/
theorem State.run_linkBreak_link {s : State} (listens : s.link.watch = .normal) :
    ∃ rs : List Report, (s.run Sys.linkBreak).link = s.link.broken.posts rs := by
  have event : (Sys.linkBreak { st := s, todo := [] }).st = { s with link := s.link.broken } := by
    simp [Sys.linkBreak, listens, Link.broken]
  have cascade : State.Reach { s with link := s.link.broken } (s.run Sys.linkBreak) :=
    Sys.reach_settle (event ▸ .refl)
  exact cascade.link

/-- A break abandons a frame in progress and counts it. -/
theorem exec_linkBreakDetected_abandons {s : State} (listens : s.link.watch = .normal) (h : s.link.framer ≠ .hunt) :
    ∃ t : State, exec .linkBreakDetected s = .next t ∧ t.link.framer = .hunt
      ∧ t.link.abandoned = min (s.link.abandoned + 1) 65535 := by
  obtain ⟨rs, posted⟩ := State.run_linkBreak_link listens
  obtain ⟨framer, -, -, abandoned, -⟩ := s.link.broken.posts_still rs
  have ended : s.link.broken.framer = .hunt ∧ s.link.broken.abandoned = min (s.link.abandoned + 1) 65535 := by
    simp [Link.broken, Link.abandon_of_ne_hunt h]
  exact ⟨_, rfl, posted ▸ framer.trans ended.1, posted ▸ abandoned.trans ended.2⟩

/-! ### The check (R186) -/

/-- The bits of a byte, the most significant first. -/
def msbFirst (b : Byte) : List Bool := (List.range 8).map fun k => b.getLsbD (7 - k)

/-- One bit fed into the check: the polynomial 0x1021 comes in where the bit and the register's first bit differ. -/
def crcFeed (c : Half) (bit : Bool) : Half := if c.msb = bit then c <<< 1 else (c <<< 1) ^^^ 0x1021

/-- A bit that is fed in is the same as that bit added to the register's first bit ahead of the shift. -/
theorem crcFeed_xor_msb (c d : Half) : crcFeed (c ^^^ d) d.msb = crcBit c ^^^ (d <<< 1) := by
  unfold crcFeed crcBit
  rw [BitVec.msb_xor, BitVec.shiftLeft_xor_distrib]
  have turn : c <<< 1 ^^^ d <<< 1 ^^^ 0x1021#16 = c <<< 1 ^^^ 0x1021#16 ^^^ d <<< 1 := by ac_rfl
  cases c.msb with
  | false => simp
  | true => simpa using turn

/-- The first `k` bits of a byte, fed in one by one, against the byte added at once: they differ by the bits of the
byte that are still to come, which are none after eight. -/
theorem crcFeed_bits (c : Half) (b : Byte) (k : Nat) (h : k ≤ 8) :
    (List.range k).foldl (fun c j => crcFeed c (b.getLsbD (7 - j))) c
      = (List.range k).foldl (fun c _ => crcBit c) (c ^^^ (b.zeroExtend 16 <<< 8))
        ^^^ (b.zeroExtend 16 <<< (8 + k)) := by
  induction k with
  | zero => simp
  | succ k ih =>
    have next : b.getLsbD (7 - k) = (b.zeroExtend 16 <<< (8 + k)).msb := by
      have place : 16 - 1 - (8 + k) = 7 - k := by omega
      have inside : 8 + k < 16 ∧ 7 - k < 16 := by omega
      simp [BitVec.getMsbD_eq_getLsbD, place, inside]
    rw [List.range_succ, List.foldl_append, List.foldl_append, ih (by omega)]
    simp only [List.foldl_cons, List.foldl_nil]
    rw [next, crcFeed_xor_msb, ← BitVec.shiftLeft_add, Nat.add_assoc]

/-- A byte of the check is its eight bits, the most significant first. -/
theorem crcByte_eq (c : Half) (b : Byte) : crcByte c b = (msbFirst b).foldl crcFeed c := by
  have spent : b.zeroExtend 16 <<< (8 + 8) = (0 : Half) := BitVec.shiftLeft_eq_zero (by omega)
  rw [msbFirst, List.foldl_map, crcFeed_bits c b 8 (by omega), spent]
  simp [crcByte]

/-- The check of a run of bytes is that of their bits. -/
theorem crcOf_eq (l : List Byte) : crcOf l = (l.flatMap msbFirst).foldl crcFeed 0xFFFF := by
  rw [List.foldl_flatMap]
  exact congrArg (fun f => l.foldl f 0xFFFF) (funext fun c => funext fun b => crcByte_eq c b)

/-- Settles O5: the framer's equations state by state, the end of a frame in progress, and the check bit by bit. -/
theorem theFramerFollowsItsTable : Obligations.TheFramerFollowsItsTable := by
  refine ⟨fun s b listens => ⟨fun h => ?hunt, fun h => ?length, fun n held h => ?body, fun held h => ?firstCheck,
    fun type tag body first h => ?lastCheck, fun h => ?idle, fun h => ?inProgress⟩, fun s listens => ?badCheck,
    fun len held => ?check⟩
  case hunt =>
    rw [exec_receivedByte_of_link (Link.receive_of_hunt listens h)]
    split <;> rfl
  case length =>
    rw [exec_receivedByte_of_link (Link.receive_of_length listens h)]
    split <;> rfl
  case body => exact exec_receivedByte_of_link (Link.receive_of_body listens h)
  case firstCheck => exact exec_receivedByte_of_link (Link.receive_of_firstCheck listens h)
  case lastCheck =>
    have received := Link.receive_of_lastCheck (b := b) listens h
    split
    case isTrue good =>
      rw [if_pos good] at received
      exact (exec_receivedByte_of_command received).trans (execFrame_frameCommand ..)
    case isFalse bad =>
      rw [if_neg bad] at received
      exact exec_receivedByte_of_link received
  case idle => exact exec_gap_and_framingError_of_abandon listens (Link.abandon_of_hunt h)
  case inProgress =>
    obtain ⟨gap, framingError⟩ := exec_gap_and_framingError_of_abandon listens (Link.abandon_of_ne_hunt h)
    exact ⟨gap, framingError, exec_linkBreakDetected_abandons listens h⟩
  case badCheck =>
    exact congrArg Host.Outcome.next (State.onLink_eq (Link.ifListening_of_normal Link.checkError listens))
  case check => exact congrArg halfBytes (crcOf_eq (len :: held))

end Sys2Proof.Machine
end

section
/-! IDENTIFY and STATUS, decided while a load runs as at any other time (R193, R194), and what CIL holds of the image
through a restart (R193, R195, R203). -/

namespace Sys2Proof.Machine

/-! ### The requests that are decided during a load (R187) -/

/-- A request that is decided whatever CIL does, and that its owner only answers, leaves its answer. -/
theorem State.run_request_answered {s : State} (code tag : Byte) (r : Result) (owner : Sys → Call → Sys)
    (h : s.receives) (k : s.steady)
    (answers : owner { st := s.heard, todo := [] } { code := code, tag := tag }
      = Sys.answer { st := s.heard, todo := [] } { code := code, tag := tag } r) :
    (s.run fun y => y.request code tag true (.fields ()) noMask fun y c _ => owner y c) = s.answered code tag r := by
  rw [State.run_request_fields _ _ _ _ _ _ h]
  simp only [Sys.letIn, noMask, Bool.not_true, Bool.false_and, Bool.false_eq_true, if_false, answers]
  exact State.settle_answer _ r _ k

theorem FaultState.active_eq (u : FaultState) :
    u.active = (decide (u = .activeUnack) || decide (u = .activeAck)) := by
  cases u <;> rfl

/-- The fields of STATUS as LNK finds them once it has heard the request. -/
theorem Sys.status_heard {s : State} (c : Call) (listens : s.link.watch = .normal) :
    Sys.status { st := s.heard, todo := [] } c = Sys.answer { st := s.heard, todo := [] } c (.ok (.status
      { load := s.loader.state, kind := s.loader.kind, mode := s.outputs.mode, timer := s.outputs.exitTimer.isSome,
        framer := .hunt, watch := .normal, checkErrors := s.link.checkErrors, abandoned := s.link.abandoned,
        overruns := s.link.overruns, breaks := s.link.breaks, lost := s.link.lost, slip := s.link.slip,
        replies := s.link.replies + 1, reports := s.link.reports, faults := s.ifu.faults.length,
        tripActive := s.ifu.faults.any fun e => decide (e.kind.severity = .trip)
          && (decide (e.state = .activeUnack) || decide (e.state = .activeAck)) })) := by
  simp only [← FaultState.active_eq, ← listens]
  rfl

/-! ### CIL through a warm restart (R195) -/

theorem State.abortPans_loader (s : State) (l : List PanId) : (l.foldl State.abortPan s).loader = s.loader := by
  induction l generalizing s with
  | nil => rfl
  | cons p l ih => exact ih (s.abortPan p)

theorem State.restarted_loader (s : State) : s.restarted.loader = s.loader := s.abortPans_loader _

theorem Sys.restartMode_loader (y : Sys) : y.restartMode.st.loader = y.st.loader := by
  unfold Sys.restartMode
  split <;> rfl

/-- A warm restart begins a load, and keeps the image status and the version. -/
theorem Sys.warmRestart_loader (y : Sys) (cause : StartCause) :
    (y.warmRestart cause).st.loader.state = .loading
    ∧ (y.warmRestart cause).st.loader.image = y.st.loader.image
    ∧ (y.warmRestart cause).st.loader.version = y.st.loader.version := by
  have loader : (y.warmRestart cause).st.loader = _ := (State.restarted_loader _).trans (Sys.restartMode_loader _)
  rw [loader]
  exact ⟨rfl, rfl, rfl⟩

/-- No notice writes what CIL holds. -/
theorem Sys.settle_loader (y : Sys) : y.settle.loader = y.st.loader :=
  congrArg Still.loader (Sys.reach_settle .refl).still

/-- An admitted RESTART has the load state LOADING, and the image status and the version as they were. -/
theorem exec_restart_loader {s : State} (tag : Byte) (h : s.receives) (loaded : s.loaded = true) :
    ∃ t : State, exec (.restart tag (.fields ())) s = .next t ∧ t.loader.state = .loading
      ∧ t.loader.image = s.loader.image ∧ t.loader.version = s.loader.version := by
  refine ⟨_, rfl, ?_⟩
  rw [State.serve_owner _ _ _ _ h loaded, Sys.settle_loader]
  exact Sys.warmRestart_loader _ .restart

theorem Config.designIssue_range : 1 ≤ Config.designIssue ∧ Config.designIssue ≤ 255 := by
  unfold Config.designIssue
  omega

/-- Settles O9: the two answers field by field, and CIL's image status and version through the starts. -/
theorem identifyAndStatusCarryTheirFields : Obligations.IdentifyAndStatusCarryTheirFields := by
  refine ⟨⟨fun tag s h k => ?identify, Config.designIssue_range.1, Config.designIssue_range.2,
    fun tag s h loaded => exec_restart_loader tag h loaded, fun s => ⟨s.powerOn, rfl, rfl, rfl⟩⟩,
    fun tag s h k => ?status⟩
  case identify => exact congrArg Host.Outcome.next (State.run_request_answered 0x01 tag _ Sys.identify h k rfl)
  case status =>
    exact congrArg Host.Outcome.next
      (State.run_request_answered 0x02 tag _ Sys.status h k (Sys.status_heard _ h.1))

end Sys2Proof.Machine
end
